-- ==== Sys2Proof/Word.lean ====
section
/-! DEFINITION. The index types and the byte of the DP-648 model: plain abbreviations, so that the library's lemmas about
`BitVec` and `Fin` apply to them. -/

namespace Sys2Proof

/-- One character of the line (R186): 8 data bits. -/
abbrev Byte := BitVec 8

/-- The 32-bit tick counter and every stored tick (R152): it wraps. -/
abbrev Tick := BitVec 32

/-- A lane number, 0–47 (R1). -/
abbrev LaneId := Fin 48

/-- A bay number, 0–5 (R168). -/
abbrev BayId := Fin 6

/-- A class number, 0–7; the smaller number is the more urgent (R150). -/
abbrev ClassId := Fin 8

/-- A slot of the call table, 0–31 (R124). -/
abbrev SlotId := Fin 32

/-- A watch rule number, 0–7 (R109). -/
abbrev RuleId := Fin 8

/-- A capture slot, 0–3 (R77). -/
abbrev CaptureId := Fin 4

/-- A pattern number, 0–4, in the order FAULT, URGENT, WINDOW, CALL, TAKEN (R179). -/
abbrev PatternId := Fin 5

end Sys2Proof
end

