-- ==== Sys2Proof/Syntax.lean ====
section
/-! DEFINITION. The commands of the DP-648: one constructor for each row of `spec/opcode_table.json`.

A row that is a request of the link (R189's request table) carries the frame's header and its payload bytes, so a wrong payload
size and a code that names no value can both be written (they are answered BAD_LENGTH and BAD_VALUE). A row that is an event at
the bridge inputs, the keys, the pins or the settings store carries what the outside world contributes to it. -/

namespace Sys2Proof

/-- The header of a request frame (R199): its address (0 is the broadcast) and its tag. -/
structure Header where
  address : Byte
  tag     : Byte
  deriving DecidableEq, Repr

/-- One reading of a bridge (R22, R23): the converter's 24-bit value, and whether the current through the group's sense stayed
below 2.0 mA at any point of the reading. -/
structure Reading where
  raw        : BitVec 24
  lowCurrent : Bool
  deriving DecidableEq, Repr

/-- What the outside world contributes to one tick: the sample of each bay's key (bit `b` set: key `b` reads down, R170), and
which of two deliveries comes first where the manual says that either order is correct (R153, R169): the bays' delivery before
or after the capture unit's, and before or after the call controller's (log entry 5). -/
structure TickInput where
  keysDown           : BitVec 6
  baysBeforeCaptures : Bool
  baysBeforeCalls    : Bool
  deriving DecidableEq, Repr

/-- A command of the DP-648, one constructor per row of the table, in the table's order. -/
inductive Instr where
  /-- POWER_ON: the supply rises; `straps` is what the five strap pins read (an open strap reads 1). -/
  | powerOn (straps : BitVec 5)
  /-- RESET_N_LOW: the RESET_N pin falls. -/
  | resetNLow
  /-- RESET_N_RELEASE: the RESET_N pin rises; `straps` is what the five strap pins read. -/
  | resetNRelease (straps : BitVec 5)
  /-- LINE_IDLE: 2 ms pass without a character. -/
  | lineIdle
  /-- FRAME_ABANDONED: these characters of one frame arrive, and then a gap of more than 2 ms. -/
  | frameAbandoned (chars : List Byte)
  /-- FRAME_DISCARDED: these characters of one frame arrive, and the frame is one that R187 discards. -/
  | frameDiscarded (chars : List Byte)
  /-- UNKNOWN_KIND_REQUEST: a frame that passes R187 and whose kind names no request. -/
  | unknownKindRequest (h : Header) (kind : Byte) (payload : List Byte)
  /-- REPLY_COMPLETE: the last character of the reply has been sent. -/
  | replyComplete
  | identify (h : Header) (payload : List Byte)
  | getStatus (h : Header) (payload : List Byte)
  | restart (h : Header) (payload : List Byte)
  | setDevice (h : Header) (payload : List Byte)
  | saveSettings (h : Header) (payload : List Byte)
  /-- SAVE_COMPLETE: the write ends; `agrees` says whether the image read back equals the copy. -/
  | saveComplete (agrees : Bool)
  | laneSummary (h : Header) (payload : List Byte)
  | getLane (h : Header) (payload : List Byte)
  | bindLane (h : Header) (payload : List Byte)
  | unbindLane (h : Header) (payload : List Byte)
  | setLaneWeighing (h : Header) (payload : List Byte)
  | suspendLane (h : Header) (payload : List Byte)
  | resumeLane (h : Header) (payload : List Byte)
  | beginZero (h : Header) (payload : List Byte)
  | beginSpan (h : Header) (payload : List Byte)
  | cancelCapture (h : Header) (payload : List Byte)
  | setCalibration (h : Header) (payload : List Byte)
  | readMoves (h : Header) (payload : List Byte)
  | removeMoves (h : Header) (payload : List Byte)
  | clearJournal (h : Header) (payload : List Byte)
  | setWatch (h : Header) (payload : List Byte)
  | getWatch (h : Header) (payload : List Byte)
  | clearWatchHits (h : Header) (payload : List Byte)
  | nextCall (h : Header) (payload : List Byte)
  | listCalls (h : Header) (payload : List Byte)
  | takeCall (h : Header) (payload : List Byte)
  | closeCall (h : Header) (payload : List Byte)
  | clearCalls (h : Header) (payload : List Byte)
  | setClass (h : Header) (payload : List Byte)
  | getClass (h : Header) (payload : List Byte)
  | setBay (h : Header) (payload : List Byte)
  | getBay (h : Header) (payload : List Byte)
  | openWindow (h : Header) (payload : List Byte)
  | closeWindow (h : Header) (payload : List Byte)
  | setLamp (h : Header) (payload : List Byte)
  | setPattern (h : Header) (payload : List Byte)
  /-- TICK: 100 ms have passed since the last tick. -/
  | tick (t : TickInput)
  /-- CAPTURE_TIMEOUT: the tick at which the capture of this slot times out. -/
  | captureTimeout (slot : CaptureId) (t : TickInput)
  /-- RENOTIFY_EXPIRY: the tick at which the aging timer of this slot's call expires. -/
  | renotifyExpiry (slot : SlotId) (t : TickInput)
  /-- SERVICE_EXPIRY: the tick at which the service timer of this slot's call expires. -/
  | serviceExpiry (slot : SlotId) (t : TickInput)
  /-- WINDOW_EXPIRY: the tick at which this bay's window expires. -/
  | windowExpiry (bay : BayId) (t : TickInput)
  /-- OVERRIDE_EXPIRY: the tick at which this bay's timed override runs out. -/
  | overrideExpiry (bay : BayId) (t : TickInput)
  /-- KEY_PRESS: the tick whose sample recognises a press of this bay's key. -/
  | keyPress (bay : BayId) (t : TickInput)
  /-- LONG_PRESS: the tick whose sample makes this bay's press a long press. -/
  | longPress (bay : BayId) (t : TickInput)
  /-- KEY_RELEASE: the tick whose sample recognises the release of this bay's key. -/
  | keyRelease (bay : BayId) (t : TickInput)
  /-- CONVERSION: the reading in progress ends and is delivered. -/
  | conversion (rd : Reading)
  /-- FAULT_ENTRY: the conversion that brings the abnormal run of the lane under visit to 3. -/
  | faultEntry (rd : Reading)
  /-- FAULT_RECOVERY: the conversion that brings the recovery run of the lane under visit to 8. -/
  | faultRecovery (rd : Reading)
  /-- PLATEAU: the conversion that brings the lane under visit from MOVING into STABLE. -/
  | plateau (rd : Reading)
  /-- CAPTURE_COMPLETE: the conversion that completes the capture of the lane under visit. -/
  | captureComplete (rd : Reading)
  /-- POWER_LOSS: the supply falls. -/
  | powerLoss
  deriving DecidableEq, Repr

end Sys2Proof
end

