-- ==== Sys2Proof/Config.lean ====
section
/-! DEFINITION. What the manual fixes once for every DP-648: capacities, ranges and identification values. The manual leaves no
value open that an instruction computes, so there is no free value here (log entries 1 to 4 name what it does leave open). -/

namespace Sys2Proof.Config

/-- Records the journal holds (R93). -/
def journalCapacity : Nat := 128

/-- Most records one READ_MOVES returns (R104). -/
def readMovesMax : Nat := 8

/-- Most records one LIST_CALLS returns (R138). -/
def listCallsMax : Nat := 8

/-- Longest payload of a frame (R187, R199). -/
def payloadMax : Nat := 240

/-- The abnormal run at which a lane enters FAULT (R50). -/
def abnormalLimit : Nat := 3

/-- The recovery run at which a lane leaves FAULT (R52). -/
def recoveryLimit : Nat := 8

/-- Fewest calm conversions that complete a capture (R82). -/
def captureCalm : Nat := 16

/-- Largest magnitude of a net, in grams (R41). -/
def netLimit : Int := 4000000

/-- Largest magnitude of a gram delta, in grams (R61, R97). -/
def deltaLimit : Int := 8000000

/-- Largest case count of an estimate (R43). -/
def countCap : Nat := 65535

/-- The lowest raw value of the converter; a reading of it is CLIPPED (R23). -/
def rawMin : Int := -8388608

/-- The highest raw value of the converter; a reading of it is CLIPPED (R23). -/
def rawMax : Int := 8388607

/-- The greatest age, in ticks, at which a stored tick is judged at its true age: 2^31 (R152). -/
def ageLimit : Nat := 2147483648

/-- The largest gain (R3, R84). -/
def gainMax : Nat := 4194304

/-- The part number IDENTIFY reports (R192). -/
def partNumber : Nat := 648

/-- The layout revision IDENTIFY reports (R192). -/
def layoutRevision : Nat := 1

end Sys2Proof.Config
end

