-- ==== Sys2Proof/WellFormed.lean ====
section
/-! DEFINITION. Which commands are well formed: the checks that need no state. A well-formed request fits a frame (R187, R199), a
kind handed to UNKNOWN_KIND_REQUEST names no request of R189's table, an abandoned frame has begun and is not complete (R186), and
a discarded frame has begun. -/

namespace Sys2Proof

/-- The codes of the request table (R189, R191), in the table's order. -/
def requestKinds : List Nat :=
  [1, 2, 3, 4, 5, 16, 17, 18, 19, 20, 21, 22, 32, 33, 34, 35, 48, 49, 50, 56, 57, 58, 64, 65, 66, 67, 68, 72, 73, 80, 81,
    82, 83, 84, 85]

/-- Is the kind byte one that marks a request, 0 to 127, and names none of the request table (R189)? -/
def unknownKind (kind : Byte) : Bool :=
  decide (kind.toNat < 128) && !requestKinds.contains kind.toNat

/-- A payload whose length a frame's length byte can state (R199). -/
def payloadFits (p : List Byte) : Bool :=
  decide (p.length ≤ Config.payloadMax)

/-- The characters of a frame that a gap abandons (R186): at least one, fewer than the 6 bytes plus the payload of a complete
frame, and none of the two bytes on which R187 gives the frame up at once (a kind of 128 or above, a length above 240). -/
def unfinishedFrame (chars : List Byte) : Bool :=
  match chars with
  | [] => false
  | _ :: _ :: kind :: [] => decide (kind.toNat < 128)
  | _ :: _ :: kind :: len :: rest =>
    decide (kind.toNat < 128) && decide (len.toNat ≤ Config.payloadMax) && decide (rest.length < len.toNat + 2)
  | _ => true

/-- The well-formed commands. A row whose operands are bounded by their types has no check. -/
def wellFormed : Instr → Bool
  | .powerOn _ => true
  | .resetNLow => true
  | .resetNRelease _ => true
  | .lineIdle => true
  | .frameAbandoned chars => unfinishedFrame chars
  | .frameDiscarded chars => !chars.isEmpty
  | .unknownKindRequest _ kind p => unknownKind kind && payloadFits p
  | .replyComplete => true
  | .identify _ p => payloadFits p
  | .getStatus _ p => payloadFits p
  | .restart _ p => payloadFits p
  | .setDevice _ p => payloadFits p
  | .saveSettings _ p => payloadFits p
  | .saveComplete _ => true
  | .laneSummary _ p => payloadFits p
  | .getLane _ p => payloadFits p
  | .bindLane _ p => payloadFits p
  | .unbindLane _ p => payloadFits p
  | .setLaneWeighing _ p => payloadFits p
  | .suspendLane _ p => payloadFits p
  | .resumeLane _ p => payloadFits p
  | .beginZero _ p => payloadFits p
  | .beginSpan _ p => payloadFits p
  | .cancelCapture _ p => payloadFits p
  | .setCalibration _ p => payloadFits p
  | .readMoves _ p => payloadFits p
  | .removeMoves _ p => payloadFits p
  | .clearJournal _ p => payloadFits p
  | .setWatch _ p => payloadFits p
  | .getWatch _ p => payloadFits p
  | .clearWatchHits _ p => payloadFits p
  | .nextCall _ p => payloadFits p
  | .listCalls _ p => payloadFits p
  | .takeCall _ p => payloadFits p
  | .closeCall _ p => payloadFits p
  | .clearCalls _ p => payloadFits p
  | .setClass _ p => payloadFits p
  | .getClass _ p => payloadFits p
  | .setBay _ p => payloadFits p
  | .getBay _ p => payloadFits p
  | .openWindow _ p => payloadFits p
  | .closeWindow _ p => payloadFits p
  | .setLamp _ p => payloadFits p
  | .setPattern _ p => payloadFits p
  | .tick _ => true
  | .captureTimeout _ _ => true
  | .renotifyExpiry _ _ => true
  | .serviceExpiry _ _ => true
  | .windowExpiry _ _ => true
  | .overrideExpiry _ _ => true
  | .keyPress _ _ => true
  | .longPress _ _ => true
  | .keyRelease _ _ => true
  | .conversion _ => true
  | .faultEntry _ => true
  | .faultRecovery _ => true
  | .plateau _ => true
  | .captureComplete _ => true
  | .powerLoss => true

end Sys2Proof
end

