-- ==== Sys2Proof/Decode.lean ====
section
/-! DEFINITION. From bits to commands. The opcode table gives no row any bits, so `decodeTableWord` reads none. The line does give
every request an encoding (R186 to R191, R199): `judgeFrame` reads a frame's characters as the unit's link interface judges them,
and `frameOf` is the frame that carries a request. The check sequence of R188 stands here too. -/

namespace Sys2Proof

/-- No row of `spec/opcode_table.json` carries bits, so no word spells a command. -/
def decodeTableWord (_nbits _w : Nat) : Option Instr :=
  none

/-! ### The frame check sequence (R188) -/

/-- One data bit into the CRC register: shift one place toward the high end, and combine with x^16 + x^12 + x^5 + 1 if the bit
shifted out differs from the data bit (R188). -/
def crcBit (reg : BitVec 16) (bit : Bool) : BitVec 16 :=
  if reg.msb == bit then reg <<< 1 else (reg <<< 1) ^^^ 0x1021#16

/-- One byte into the CRC register, most significant bit first (R188). -/
def crcByte (reg : BitVec 16) (b : Byte) : BitVec 16 :=
  [7, 6, 5, 4, 3, 2, 1, 0].foldl (fun acc i => crcBit acc (b.getLsbD i)) reg

/-- The frame check sequence of a run of bytes: the register starts at all ones, and there is no final inversion (R188). -/
def crc (bytes : List Byte) : BitVec 16 :=
  bytes.foldl crcByte 0xFFFF#16

/-- The two bytes in which a check sequence is sent, high byte first (R188). -/
def crcBytes (c : BitVec 16) : List Byte :=
  [(c >>> 8).setWidth 8, c.setWidth 8]

/-! ### Requests and their kinds (R189, R191) -/

/-- The request that a kind names (the request table), or the request of an unknown kind (R189). -/
def requestOf (h : Header) (kind : Byte) (p : List Byte) : Instr :=
  match kind.toNat with
  | 1 => .identify h p
  | 2 => .getStatus h p
  | 3 => .restart h p
  | 4 => .setDevice h p
  | 5 => .saveSettings h p
  | 16 => .laneSummary h p
  | 17 => .getLane h p
  | 18 => .bindLane h p
  | 19 => .unbindLane h p
  | 20 => .setLaneWeighing h p
  | 21 => .suspendLane h p
  | 22 => .resumeLane h p
  | 32 => .beginZero h p
  | 33 => .beginSpan h p
  | 34 => .cancelCapture h p
  | 35 => .setCalibration h p
  | 48 => .readMoves h p
  | 49 => .removeMoves h p
  | 50 => .clearJournal h p
  | 56 => .setWatch h p
  | 57 => .getWatch h p
  | 58 => .clearWatchHits h p
  | 64 => .nextCall h p
  | 65 => .listCalls h p
  | 66 => .takeCall h p
  | 67 => .closeCall h p
  | 68 => .clearCalls h p
  | 72 => .setClass h p
  | 73 => .getClass h p
  | 80 => .setBay h p
  | 81 => .getBay h p
  | 82 => .openWindow h p
  | 83 => .closeWindow h p
  | 84 => .setLamp h p
  | 85 => .setPattern h p
  | _ => .unknownKindRequest h kind p

/-- The parts of a request's frame: header, kind and payload; `none` for a command that is no request. -/
def requestParts : Instr → Option (Header × Byte × List Byte)
  | .unknownKindRequest h kind p => some (h, kind, p)
  | .identify h p => some (h, 1, p)
  | .getStatus h p => some (h, 2, p)
  | .restart h p => some (h, 3, p)
  | .setDevice h p => some (h, 4, p)
  | .saveSettings h p => some (h, 5, p)
  | .laneSummary h p => some (h, 16, p)
  | .getLane h p => some (h, 17, p)
  | .bindLane h p => some (h, 18, p)
  | .unbindLane h p => some (h, 19, p)
  | .setLaneWeighing h p => some (h, 20, p)
  | .suspendLane h p => some (h, 21, p)
  | .resumeLane h p => some (h, 22, p)
  | .beginZero h p => some (h, 32, p)
  | .beginSpan h p => some (h, 33, p)
  | .cancelCapture h p => some (h, 34, p)
  | .setCalibration h p => some (h, 35, p)
  | .readMoves h p => some (h, 48, p)
  | .removeMoves h p => some (h, 49, p)
  | .clearJournal h p => some (h, 50, p)
  | .setWatch h p => some (h, 56, p)
  | .getWatch h p => some (h, 57, p)
  | .clearWatchHits h p => some (h, 58, p)
  | .nextCall h p => some (h, 64, p)
  | .listCalls h p => some (h, 65, p)
  | .takeCall h p => some (h, 66, p)
  | .closeCall h p => some (h, 67, p)
  | .clearCalls h p => some (h, 68, p)
  | .setClass h p => some (h, 72, p)
  | .getClass h p => some (h, 73, p)
  | .setBay h p => some (h, 80, p)
  | .getBay h p => some (h, 81, p)
  | .openWindow h p => some (h, 82, p)
  | .closeWindow h p => some (h, 83, p)
  | .setLamp h p => some (h, 84, p)
  | .setPattern h p => some (h, 85, p)
  | .powerOn _ | .resetNLow | .resetNRelease _ | .lineIdle | .frameAbandoned _ | .frameDiscarded _ | .replyComplete
  | .saveComplete _ | .tick _ | .captureTimeout _ _ | .renotifyExpiry _ _ | .serviceExpiry _ _ | .windowExpiry _ _
  | .overrideExpiry _ _ | .keyPress _ _ | .longPress _ _ | .keyRelease _ _ | .conversion _ | .faultEntry _
  | .faultRecovery _ | .plateau _ | .captureComplete _ | .powerLoss => none

/-- The bytes of a request frame ahead of its check sequence (R199). -/
def frameBody (h : Header) (kind : Byte) (p : List Byte) : List Byte :=
  h.address :: h.tag :: kind :: BitVec.ofNat 8 p.length :: p

/-- The frame that carries a request (R199); `none` for a command that is no request. -/
def frameOf (i : Instr) : Option (List Byte) :=
  (requestParts i).map fun (h, kind, p) =>
    let body := frameBody h kind p
    body ++ crcBytes (crc body)

/-! ### The judgement of a frame (R186, R187) -/

/-- What the link interface makes of the characters of one frame. -/
inductive Judgement where
  /-- The frame is discarded, with no reply and no effect (R187). -/
  | discarded
  /-- The frame is not yet complete and nothing has discarded it so far. -/
  | unfinished
  /-- The frame passes and is this request, for this unit or for every unit. -/
  | request (i : Instr)
  deriving DecidableEq, Repr

/-- The judgement of a complete frame (R187): its check sequence, then its address. -/
def judgeComplete (unit : Byte) (h : Header) (kind : Byte) (p check : List Byte) : Judgement :=
  if check = crcBytes (crc (frameBody h kind p)) then
    if h.address = 0 ∨ h.address = unit then .request (requestOf h kind p) else .discarded
  else .discarded

/-- The judgement of the characters of one frame, as they arrive and when the frame is complete (R187). A kind of 128 or above
and a length above 240 discard it at once. Characters beyond the complete frame are not part of it. -/
def judgeFrame (unit : Byte) (chars : List Byte) : Judgement :=
  match chars with
  | address :: tag :: kind :: len :: rest =>
    if kind.toNat ≥ 128 ∨ len.toNat > Config.payloadMax then .discarded
    else if rest.length < len.toNat + 2 then .unfinished
    else judgeComplete unit ⟨address, tag⟩ kind (rest.take len.toNat) ((rest.drop len.toNat).take 2)
  | _ :: _ :: kind :: [] => if kind.toNat ≥ 128 then .discarded else .unfinished
  | _ => .unfinished

end Sys2Proof
end

