-- ==== Sys2Proof/Machine/State.lean ====
section
/-! DEFINITION. The state of the DP-648 as plain data: every register, table, timer, queue, flag and pin level that the manual
gives the part, each group with the rule that names it; the factory defaults; and the part right after reset. -/

namespace Sys2Proof.Machine

/-- The manual gives the part no event that stops it: every command it describes leaves the part in a next state. So there is no
fault to raise, and this type has no constructor. -/
inductive Fault where
  deriving DecidableEq, Repr

/-- Why a command has no meaning in the model. -/
inductive Refusal where
  /-- Raised by `exec` for a row of the table that has no meaning yet; no arm raises it now. Safe: the model stops. -/
  | notModelled (mnemonic : String)
  deriving DecidableEq, Repr

/-! ### Named values, in the order in which the manual first lists them (R191) -/

/-- The state of a lane (R7). -/
inductive LaneState where
  | off | moving | stable | fault | capture
  deriving DecidableEq, Repr

/-- The stock level of a lane (R5, R67). -/
inductive Level where
  | none | ok | low | empty
  deriving DecidableEq, Repr

/-- The fault reason of a lane (R4). -/
inductive FaultReason where
  | none | clipped | noResponse
  deriving DecidableEq, Repr

/-- The condition of a conversion (R23). -/
inductive Condition where
  | normal | clipped | noResponse
  deriving DecidableEq, Repr

/-- The outcome of a lane's last capture (R6). -/
inductive CaptureOutcome where
  | none | running | done | timeout | rejected | abortedFault | cancelled
  deriving DecidableEq, Repr

/-- What a capture sets (R77). -/
inductive CaptureKind where
  | zero | span
  deriving DecidableEq, Repr

/-- The kind of a movement (R61, R63): WITHDRAW, RETURN, REPLENISH, RECOUNT. -/
inductive MoveKind where
  | withdraw | giveBack | replenish | recount
  deriving DecidableEq, Repr

/-- How a watch rule tests the movement's lane (R109). -/
inductive LaneMode where
  | equal | inside | outside
  deriving DecidableEq, Repr

/-- Which size of a movement a watch rule tests (R109). -/
inductive Measure where
  | count | grams
  deriving DecidableEq, Repr

/-- How a watch rule tests the size (R109). -/
inductive MagnitudeMode where
  | inside | outside
  deriving DecidableEq, Repr

/-- What a hit of a watch rule asks for (R109). -/
inductive WatchAction where
  | raise | countOnly
  deriving DecidableEq, Repr

/-- The cause of a call (R122). -/
inductive Cause where
  | restock | fault | watch
  deriving DecidableEq, Repr

/-- The state of a call (R125). -/
inductive CallState where
  | raised | taken | satisfied
  deriving DecidableEq, Repr

/-- What a bay's lamp shows (R177). -/
inductive Display where
  | fault | urgent | window | call | taken | dark | steady
  deriving DecidableEq, Repr

/-- Where a bay's key stands in its press (R170). -/
inductive KeyState where
  | idle | arming | down | lettingGo
  deriving DecidableEq, Repr

/-- The state of the receiver (R186). -/
inductive Receiver where
  | hunt | ready | receiving | replying
  deriving DecidableEq, Repr

/-- The link rate, by its code (R193): 19,200, 57,600 or 115,200 baud. -/
inductive LinkRate where
  | b19200 | b57600 | b115200
  deriving DecidableEq, Repr

/-- The conversion rate (R24), in conversions per second. -/
inductive ConversionRate where
  | r100 | r200 | r400 | r800
  deriving DecidableEq, Repr

/-- Where the settings in force came from at the last restart (R198). -/
inductive SettingsOrigin where
  | loaded | defaulted
  deriving DecidableEq, Repr

/-- The state of a save (R196, R197). -/
inductive SaveState where
  | idle | saving | done | failed
  deriving DecidableEq, Repr

/-- The status of a reply (R189), in the order of its codes. -/
inductive Status where
  | ok | busy | unknownKind | badLength | badValue | laneOff | laneBusy | staleCall | wrongState
  deriving DecidableEq, Repr

/-! ### The lane record (R1 to R6) -/

/-- The binding group of a lane (R2). -/
structure Binding where
  item           : BitVec 32
  bay            : BayId
  unitMass       : Nat
  tolerance      : Nat
  lowMark        : Nat
  clearMark      : Nat
  lowClass       : ClassId
  emptyClass     : ClassId
  suspended      : Bool
  baselineNeeded : Bool
  deriving DecidableEq, Repr

/-- The weighing settings of a lane that SET_LANE_WEIGHING writes (R3, R13). -/
structure Weighing where
  shift      : Nat
  jump       : Nat
  band       : Nat
  settle     : Nat
  trackStep  : Nat
  trackLimit : Nat
  deriving DecidableEq, Repr

/-- The calibration of a lane (R3): calibrated zero, working zero and gain. -/
structure Calibration where
  zero    : Int
  working : Int
  gain    : Nat
  deriving DecidableEq, Repr

/-- The working group of a lane (R4). -/
structure Working where
  filtered    : Int
  calm        : Nat
  abnormalRun : Nat
  recoveryRun : Nat
  faultReason : FaultReason
  drift       : Bool
  net         : Int
  count       : Nat
  firm        : Bool
  stale       : Bool
  deriving DecidableEq, Repr

/-- The committed group of a lane (R5). -/
structure Committed where
  count      : Nat
  net        : Int
  firm       : Bool
  level      : Level
  carryOver  : Bool
  recountDue : Bool
  deriving DecidableEq, Repr

/-- One lane record (R1). -/
structure Lane where
  state       : LaneState
  binding     : Binding
  weighing    : Weighing
  calibration : Calibration
  work        : Working
  committed   : Committed
  outcome     : CaptureOutcome
  deriving DecidableEq, Repr

/-! ### Captures, movements, watch rules -/

/-- A RUNNING capture slot (R77). -/
structure Capture where
  lane           : LaneId
  kind           : CaptureKind
  testMass       : Nat
  restartPending : Bool
  remaining      : Nat
  deriving DecidableEq, Repr

/-- A movement record (R61, R94). -/
structure Movement where
  tick         : Tick
  lane         : LaneId
  kind         : MoveKind
  before       : Nat
  after        : Nat
  delta        : Int
  loose        : Bool
  merged       : Bool
  contributors : Nat
  deriving DecidableEq, Repr

/-- The configuration of a watch rule (R109). Bit `i` of `kinds` is the membership of the `i`-th movement kind (R191). -/
structure WatchConfig where
  enabled       : Bool
  laneMode      : LaneMode
  laneLow       : LaneId
  laneHigh      : LaneId
  kinds         : BitVec 4
  measure       : Measure
  magnitudeMode : MagnitudeMode
  magnitudeLow  : Nat
  magnitudeHigh : Nat
  action        : WatchAction
  cls           : ClassId
  oneShot       : Bool
  deriving DecidableEq, Repr

/-- A watch rule with its hit counter (R109). -/
structure WatchRule where
  config : WatchConfig
  hits   : Nat
  deriving DecidableEq, Repr

/-! ### Calls and classes -/

/-- A call (R125). `aging` is `none` when the aging timer is stopped or discarded, `service` is `none` when the call has no
service timer. Whether a timer runs or is frozen follows from the call's state and its class's mask (R132, R154). -/
structure Call where
  lane      : LaneId
  cause     : Cause
  cls       : ClassId
  state     : CallState
  overdue   : Bool
  rehit     : Bool
  nag       : Nat
  repeats   : Nat
  raiseTick : Tick
  takeTick  : Option Tick
  aging     : Option Nat
  service   : Option Nat
  deriving DecidableEq, Repr

/-- An entry of the call table (R124): its generation, and the call it holds if it is not free. -/
structure CallEntry where
  generation : BitVec 8
  call       : Option Call
  deriving DecidableEq, Repr

/-- The unplaced markers of one lane (R134); a set WATCH marker holds a class. -/
structure Markers where
  restock : Bool
  fault   : Bool
  watch   : Option ClassId
  deriving DecidableEq, Repr

/-- A class record (R150). -/
structure ClassRecord where
  masked        : Bool
  renotify      : Nat
  escalateAfter : Nat
  serviceLimit  : Nat
  deriving DecidableEq, Repr

/-! ### Bays and patterns -/

/-- The three settings of a bay (R168). -/
structure BaySettings where
  keyEnabled   : Bool
  windowLength : Nat
  longPress    : Nat
  deriving DecidableEq, Repr

/-- The key of a bay (R170). -/
structure Key where
  state    : KeyState
  hold     : Nat
  longDone : Bool
  deriving DecidableEq, Repr

/-- A lamp override (R181); `remaining` is `none` for one that stands until cleared. -/
structure LampOverride where
  display   : Display
  remaining : Option Nat
  deriving DecidableEq, Repr

/-- A bay record (R168). `window` holds the ticks remaining of an open window, and is `none` while it is closed. -/
structure Bay where
  settings : BaySettings
  window   : Option Nat
  key      : Key
  forced   : Option LampOverride
  selected : Display
  phase    : Nat
  lit      : Bool
  deriving DecidableEq, Repr

/-- An entry of the pattern table (R179). -/
structure Pattern where
  period  : Nat
  onTime  : Nat
  startOn : Bool
  deriving DecidableEq, Repr

/-! ### Link, settings store, power -/

/-- The six device settings (R193). -/
structure DeviceSettings where
  conversionRate : ConversionRate
  faultClass     : ClassId
  urgentLimit    : ClassId
  captureTimeout : Nat
  watermark      : Nat
  linkRate       : LinkRate
  deriving DecidableEq, Repr

/-- The seven attention reasons (R194). -/
structure Attention where
  newCall  : Bool
  renotify : Bool
  overdue  : Bool
  journal  : Bool
  held     : Bool
  fault    : Bool
  saveDone : Bool
  deriving DecidableEq, Repr

/-- The reply being sent (R189, R199). -/
structure Reply where
  address : Byte
  tag     : Byte
  kind    : Byte
  status  : Status
  payload : List Byte
  deriving DecidableEq, Repr

/-- The link interface (R186, R198): receiver, unit address, the rate in force on the line, the reply in transmission, and
whether an accepted RESTART waits for the end of its reply. -/
structure Link where
  receiver       : Receiver
  unitAddress    : Byte
  lineRate       : LinkRate
  reply          : Option Reply
  restartPending : Bool
  deriving DecidableEq, Repr

/-- What the image holds for a bound lane (R196): its binding fields with the suspended flag, its weighing settings, Z0 and G. -/
structure LaneImage where
  item       : BitVec 32
  bay        : BayId
  unitMass   : Nat
  tolerance  : Nat
  lowMark    : Nat
  clearMark  : Nat
  lowClass   : ClassId
  emptyClass : ClassId
  suspended  : Bool
  weighing   : Weighing
  zero       : Int
  gain       : Nat
  deriving DecidableEq, Repr

/-- A configuration image (R196); an unbound lane is `none`. -/
structure Image where
  lanes    : Vector (Option LaneImage) 48
  classes  : Vector ClassRecord 8
  rules    : Vector WatchConfig 8
  bays     : Vector BaySettings 6
  patterns : Vector Pattern 5
  device   : DeviceSettings
  deriving DecidableEq, Repr

/-- The settings store (R196 to R198). `image` is the stored image while its checksum matches, and `none` while the checksum is
bad: such an image is never used (R197). `copy` is the image that a running save writes. -/
structure Store where
  image  : Option Image
  copy   : Option Image
  save   : SaveState
  origin : SettingsOrigin
  deriving DecidableEq, Repr

/-- The supply and the pins that hold the part in restart (R198), and the level of the five strap pins (R200). -/
structure Power where
  supplyUp  : Bool
  resetLow  : Bool
  straps    : BitVec 5
  deriving DecidableEq, Repr

/-- The scanner's round position (R26): the lane under visit, and whether its second conversion is in progress. -/
structure ScanPosition where
  lane   : LaneId
  second : Bool
  deriving DecidableEq, Repr

/-- The state of a DP-648, and the queue of the commands that wait for it. -/
structure State where
  power     : Power
  link      : Link
  attention : Attention
  device    : DeviceSettings
  store     : Store
  tick      : Tick
  scan      : Option ScanPosition
  lanes     : Vector Lane 48
  captures  : Vector (Option Capture) 4
  journal   : List Movement
  holds     : Vector (Option Movement) 48
  rules     : Vector WatchRule 8
  calls     : Vector CallEntry 32
  markers   : Vector Markers 48
  classes   : Vector ClassRecord 8
  bays      : Vector Bay 6
  patterns  : Vector Pattern 5
  pending   : List Instr
  deriving DecidableEq, Repr

/-! ### Factory defaults and reset values -/

/-- The default bay of a lane: its number divided by 8 (R2). -/
def defaultBay (n : LaneId) : BayId :=
  ⟨n.val / 8, by have := n.isLt; omega⟩

/-- The factory default of the binding group (R2). -/
def Binding.factory (n : LaneId) : Binding :=
  { item := 0, bay := defaultBay n, unitMass := 1000, tolerance := 60, lowMark := 5, clearMark := 20, lowClass := 4,
    emptyClass := 2, suspended := false, baselineNeeded := true }

/-- The factory default of the weighing settings (R3). -/
def Weighing.factory : Weighing :=
  { shift := 3, jump := 20000, band := 200, settle := 8, trackStep := 4, trackLimit := 2000 }

/-- The factory calibration: Z0 = 0, Z on Z0, one gram per count (R3, R10). -/
def Calibration.factory : Calibration :=
  { zero := 0, working := 0, gain := 65536 }

/-- The reset values of the working group (R4). -/
def Working.reset : Working :=
  { filtered := 0, calm := 0, abnormalRun := 0, recoveryRun := 0, faultReason := .none, drift := false, net := 0, count := 0,
    firm := false, stale := false }

/-- The reset values of the committed group (R5). -/
def Committed.reset : Committed :=
  { count := 0, net := 0, firm := false, level := .none, carryOver := false, recountDue := false }

/-- A lane that is not in use: OFF, every field at its factory default (R1). -/
def Lane.off (n : LaneId) : Lane :=
  { state := .off, binding := Binding.factory n, weighing := Weighing.factory, calibration := Calibration.factory,
    work := Working.reset, committed := Committed.reset, outcome := .none }

/-- The factory default of every watch rule's configuration (R110). -/
def WatchConfig.factory : WatchConfig :=
  { enabled := false, laneMode := .equal, laneLow := 0, laneHigh := 0, kinds := 0, measure := .count,
    magnitudeMode := .inside, magnitudeLow := 0, magnitudeHigh := 0, action := .countOnly, cls := 0, oneShot := false }

/-- A free entry of generation 0 (R148). -/
def CallEntry.fresh : CallEntry :=
  { generation := 0, call := none }

/-- No marker set (R148). -/
def Markers.clear : Markers :=
  { restock := false, fault := false, watch := none }

/-- The factory defaults of the eight class records (R151). -/
def ClassRecord.factory : Vector ClassRecord 8 :=
  #v[⟨false, 150, 0, 3000⟩, ⟨false, 300, 4, 6000⟩, ⟨false, 600, 4, 9000⟩, ⟨false, 600, 6, 12000⟩,
    ⟨false, 1200, 6, 18000⟩, ⟨false, 1200, 0, 0⟩, ⟨false, 3000, 0, 0⟩, ⟨false, 0, 0, 0⟩]

/-- The factory default of a bay's settings (R168). -/
def BaySettings.factory : BaySettings :=
  { keyEnabled := true, windowLength := 3000, longPress := 20 }

/-- The key of a bay after restart, after a release, and while it is disabled (R168, R172). -/
def Key.idle : Key :=
  { state := .idle, hold := 0, longDone := false }

/-- A bay right after restart, with the given settings (R168). -/
def Bay.fresh (settings : BaySettings) : Bay :=
  { settings := settings, window := none, key := Key.idle, forced := none, selected := .dark, phase := 0, lit := false }

/-- The factory defaults of the pattern table (R179). -/
def Pattern.factory : Vector Pattern 5 :=
  #v[⟨4, 2, true⟩, ⟨6, 3, true⟩, ⟨10, 10, true⟩, ⟨20, 10, true⟩, ⟨30, 3, false⟩]

/-- The factory defaults of the six device settings (R24, R123, R178, R90, R101, R198). -/
def DeviceSettings.factory : DeviceSettings :=
  { conversionRate := .r400, faultClass := 1, urgentLimit := 1, captureTimeout := 300, watermark := 32,
    linkRate := .b57600 }

/-- No attention reason set (R198). -/
def Attention.clear : Attention :=
  { newCall := false, renotify := false, overdue := false, journal := false, held := false, fault := false,
    saveDone := false }

/-- The unit address that the straps give: their value plus 1 (R198). -/
def addressOf (straps : BitVec 5) : Byte :=
  straps.setWidth 8 + 1

/-- The part right after reset (R198): the supply is up and RESET_N is high, and the restart sequence has found a store whose
checksum is bad, so every stored value is at its factory default. DESIGN CHOICE (log entries 1 and 2): the checksum, and five
open straps. -/
def State.reset : State :=
  { power := { supplyUp := true, resetLow := false, straps := 31#5 }
    link := { receiver := .hunt, unitAddress := addressOf 31#5, lineRate := DeviceSettings.factory.linkRate, reply := none,
              restartPending := false }
    attention := Attention.clear
    device := DeviceSettings.factory
    store := { image := none, copy := none, save := .idle, origin := .defaulted }
    tick := 0
    scan := none
    lanes := Vector.ofFn Lane.off
    captures := Vector.replicate 4 none
    journal := []
    holds := Vector.replicate 48 none
    rules := Vector.replicate 8 { config := WatchConfig.factory, hits := 0 }
    calls := Vector.replicate 32 CallEntry.fresh
    markers := Vector.replicate 48 Markers.clear
    classes := ClassRecord.factory
    bays := Vector.replicate 6 (Bay.fresh BaySettings.factory)
    patterns := Pattern.factory
    pending := [] }

end Sys2Proof.Machine
end

