-- ==== Sys2Proof/Machine/Flags.lean ====
section
/-! DEFINITION. The attention reasons (R194) and the output pins that follow from the state: ATTN, the driver enable, the
excitation and the lamps (R186, R194, R198, R200). -/

namespace Sys2Proof.Machine

/-- The part runs: the supply is up and RESET_N is high. Otherwise it is held in restart (R198). -/
def State.operating (s : State) : Bool :=
  s.power.supplyUp && !s.power.resetLow

/-- Is any attention reason set (R194)? -/
def Attention.any (a : Attention) : Bool :=
  a.newCall || a.renotify || a.overdue || a.journal || a.held || a.fault || a.saveDone

/-- Does the part pull ATTN low (R194)? It is released while the part is held in restart (R198). -/
def State.attnLow (s : State) : Bool :=
  s.operating && s.attention.any

/-- Is the RS-485 driver enabled (R186, R198)? -/
def State.driverEnabled (s : State) : Bool :=
  s.operating && s.link.receiver == .replying

/-- Is lamp output `b` lit (R179, R198)? -/
def State.lampLit (s : State) (b : BayId) : Bool :=
  s.operating && s.bays[b].lit

/-- The excitation group of a bridge input (R21). -/
def excitationGroup (n : LaneId) : Fin 6 :=
  ⟨n.val / 8, by have := n.isLt; omega⟩

/-- The group and the bridge under excitation (R22): those of the lane under visit, and none while the scanner is IDLE, while the
lane is OFF, and while the part is held in restart (R198). -/
def State.excitation (s : State) : Option (Fin 6 × LaneId) :=
  match s.scan with
  | some p => if s.operating && s.lanes[p.lane].state != .off then some (excitationGroup p.lane, p.lane) else none
  | none => none

/-- Set reasons (R194): a reason that is already set stays set. -/
def State.notify (s : State) (f : Attention → Attention) : State :=
  { s with attention := f s.attention }

/-- NEW_CALL, where a call enters RAISED in class `c` (R133): set only if the class is unmasked at that moment. -/
def State.noteNewCall (s : State) (c : ClassId) : State :=
  if s.classes[c].masked then s else s.notify fun a => { a with newCall := true }

/-- JOURNAL, where an entry has brought the journal count to `count` (R102): set when that is the watermark. -/
def State.noteJournalEntry (s : State) : State :=
  if s.journal.length = s.device.watermark then s.notify fun a => { a with journal := true } else s

end Sys2Proof.Machine
end

