-- ==== Sys2Proof/Machine/Operands.lean ====
section
/-! DEFINITION. The fields of payloads and records (R191) and the byte layouts that the host sees (R199): how a field is read
from a request's bytes, the code of every named value, and the bytes of every record and reply frame. -/

namespace Sys2Proof.Machine

/-! ### Fields: numbers, most significant byte first (R191, R199) -/

/-- A 2-byte unsigned field. -/
def u16 (hi lo : Byte) : Nat :=
  hi.toNat * 256 + lo.toNat

/-- A 4-byte field as its 32 bits. -/
def u32 (a b c d : Byte) : BitVec 32 :=
  BitVec.ofNat 32 (a.toNat * 16777216 + b.toNat * 65536 + c.toNat * 256 + d.toNat)

/-- A 4-byte signed field. -/
def s32 (a b c d : Byte) : Int :=
  (u32 a b c d).toInt

/-- A 1-byte unsigned field. -/
def w8 (n : Nat) : Byte :=
  BitVec.ofNat 8 n

/-- The bytes of a 2-byte unsigned field. -/
def w16 (n : Nat) : List Byte :=
  [w8 (n / 256), w8 n]

/-- The bytes of a 4-byte field. -/
def w32 (v : BitVec 32) : List Byte :=
  [w8 (v.toNat / 16777216), w8 (v.toNat / 65536), w8 (v.toNat / 256), w8 v.toNat]

/-- The bytes of a 4-byte signed field. -/
def w32s (x : Int) : List Byte :=
  w32 (BitVec.ofInt 32 x)

/-- A number field that must be below `n`; none when it is not. -/
def index (n : Nat) (b : Byte) : Option (Fin n) :=
  if h : b.toNat < n then some ⟨b.toNat, h⟩ else none

/-- The value that a code names, in the order in which the field's values are numbered (R191); none above the last. -/
def named {α : Type} (values : List α) (b : Byte) : Option α :=
  values[b.toNat]?

/-- A yes/no code: 0 no, 1 yes (R191). -/
def yesNo (b : Byte) : Option Bool :=
  named [false, true] b

/-- The byte of a yes/no field. -/
def flag (b : Bool) : Byte :=
  if b then 1 else 0

/-- `x` moved to the nearer end of the range `lo` to `hi` if it lies outside it (the conventions' "clamped"). -/
def clamp (lo hi x : Nat) : Nat :=
  max lo (min hi x)

/-- The same for a signed field whose range lies at or above 0: a value below the range is taken as the low end (R191). -/
def clampSigned (lo hi : Nat) (x : Int) : Nat :=
  clamp lo hi x.toNat

/-! ### Codes of the named values (R191) -/

def LaneState.code : LaneState → Nat
  | .off => 0
  | .moving => 1
  | .stable => 2
  | .fault => 3
  | .capture => 4

def Level.code : Level → Nat
  | .none => 0
  | .ok => 1
  | .low => 2
  | .empty => 3

def FaultReason.code : FaultReason → Nat
  | .none => 0
  | .clipped => 1
  | .noResponse => 2

def CaptureOutcome.code : CaptureOutcome → Nat
  | .none => 0
  | .running => 1
  | .done => 2
  | .timeout => 3
  | .rejected => 4
  | .abortedFault => 5
  | .cancelled => 6

def CaptureKind.code : CaptureKind → Nat
  | .zero => 0
  | .span => 1

def MoveKind.code : MoveKind → Nat
  | .withdraw => 0
  | .giveBack => 1
  | .replenish => 2
  | .recount => 3

/-- The values of the lane mode field, by code. -/
def LaneMode.all : List LaneMode :=
  [.equal, .inside, .outside]

def LaneMode.code : LaneMode → Nat
  | .equal => 0
  | .inside => 1
  | .outside => 2

/-- The values of the measure field, by code. -/
def Measure.all : List Measure :=
  [.count, .grams]

def Measure.code : Measure → Nat
  | .count => 0
  | .grams => 1

/-- The values of the magnitude mode field, by code. -/
def MagnitudeMode.all : List MagnitudeMode :=
  [.inside, .outside]

def MagnitudeMode.code : MagnitudeMode → Nat
  | .inside => 0
  | .outside => 1

/-- The values of the action field, by code. -/
def WatchAction.all : List WatchAction :=
  [.raise, .countOnly]

def WatchAction.code : WatchAction → Nat
  | .raise => 0
  | .countOnly => 1

def Cause.code : Cause → Nat
  | .restock => 0
  | .fault => 1
  | .watch => 2

def CallState.code : CallState → Nat
  | .raised => 0
  | .taken => 1
  | .satisfied => 2

/-- The displays, by code; the code after the last of them is NONE (R191). -/
def Display.all : List Display :=
  [.fault, .urgent, .window, .call, .taken, .dark, .steady]

def Display.code : Display → Nat
  | .fault => 0
  | .urgent => 1
  | .window => 2
  | .call => 3
  | .taken => 4
  | .dark => 5
  | .steady => 6

/-- The code of NONE in the display field of SET_LAMP and GET_BAY (R191). -/
def displayNone : Nat := 7

def KeyState.code : KeyState → Nat
  | .idle => 0
  | .arming => 1
  | .down => 2
  | .lettingGo => 3

/-- The lamp output's code: lit 0, unlit 1, the order of R168. DEDUCED (log entry 11). -/
def litCode (lit : Bool) : Byte :=
  if lit then 0 else 1

def LinkRate.code : LinkRate → Nat
  | .b19200 => 0
  | .b57600 => 1
  | .b115200 => 2

/-- The link rates, by code (R193). -/
def LinkRate.all : List LinkRate :=
  [.b19200, .b57600, .b115200]

/-- The number of conversions per second that a rate names (R24). -/
def ConversionRate.perSecond : ConversionRate → Nat
  | .r100 => 100
  | .r200 => 200
  | .r400 => 400
  | .r800 => 800

/-- The conversion rate that a number names; none for any other number (R24, R193). -/
def conversionRateOf (n : Nat) : Option ConversionRate :=
  if n = 100 then some .r100 else if n = 200 then some .r200 else if n = 400 then some .r400
  else if n = 800 then some .r800 else none

def SettingsOrigin.code : SettingsOrigin → Nat
  | .loaded => 0
  | .defaulted => 1

def SaveState.code : SaveState → Nat
  | .idle => 0
  | .saving => 1
  | .done => 2
  | .failed => 3

def Status.code : Status → Nat
  | .ok => 0
  | .busy => 1
  | .unknownKind => 2
  | .badLength => 3
  | .badValue => 4
  | .laneOff => 5
  | .laneBusy => 6
  | .staleCall => 7
  | .wrongState => 8

/-! ### Records (R199) -/

/-- A byte of flags, bit 0 first. -/
def flagByte (bits : List Bool) : Byte :=
  w8 (bits.foldr (fun b n => (if b then 1 else 0) + 2 * n) 0)

/-- The lane status record, 4 bytes (R19, R199). -/
def laneStatusRecord (l : Lane) : List Byte :=
  w8 (l.state.code * 32 + l.committed.level.code * 8 + l.work.faultReason.code * 2) :: w16 l.committed.count ++
    [flagByte [l.binding.suspended, l.binding.baselineNeeded, l.committed.firm, l.work.stale, l.work.drift,
      l.committed.carryOver, l.committed.recountDue]]

/-- The movement record, 16 bytes (R199). -/
def movementRecord (m : Movement) : List Byte :=
  w32 m.tick ++ [w8 m.lane, w8 m.kind.code] ++ w16 m.before ++ w16 m.after ++ w32s m.delta ++
    [flagByte [m.loose, m.merged], w8 m.contributors]

/-- The code and the value of the timer that a call record reports (R165): aging 0, service 1, frozen service 2, none 3. -/
def timerReport (c : Call) : Nat × Nat :=
  match c.state with
  | .raised => match c.aging with
    | some t => (0, t)
    | none => (3, 0)
  | .taken => match c.service with
    | some t => (1, t)
    | none => (3, 0)
  | .satisfied => match c.service with
    | some t => (2, t)
    | none => (3, 0)

/-- The call record, 24 bytes (R136, R199): the slot, its generation, the item code of the lane now, and the call. -/
def callRecord (slot : SlotId) (generation : BitVec 8) (item : BitVec 32) (c : Call) : List Byte :=
  [w8 slot, generation, w8 c.lane, w8 c.cause.code] ++ w32 item ++ [w8 c.cls, w8 c.state.code] ++
    [flagByte [c.overdue, c.rehit, c.takeTick.isSome], w8 c.nag, w8 c.repeats] ++ w32 c.raiseTick ++
    w32 (c.takeTick.getD 0) ++ [w8 (timerReport c).1] ++ w16 (timerReport c).2

/-- The six device settings, as SET_DEVICE carries them (R193). -/
def deviceBytes (d : DeviceSettings) : List Byte :=
  w16 d.conversionRate.perSecond ++ [w8 d.faultClass, w8 d.urgentLimit] ++ w16 d.captureTimeout ++
    [w8 d.watermark, w8 d.linkRate.code]

/-- The attention reasons as byte 0 of the status reply carries them (R199). -/
def attentionByte (a : Attention) : Byte :=
  flagByte [a.newCall, a.renotify, a.overdue, a.journal, a.held, a.fault, a.saveDone]

/-- The weighing settings in the order of SET_LANE_WEIGHING (R13). -/
def weighingBytes (w : Weighing) : List Byte :=
  [w8 w.shift] ++ w32s w.jump ++ w32s w.band ++ [w8 w.settle, w8 w.trackStep] ++ w16 w.trackLimit

/-- The payload of GET_LANE's reply (R18): the status record, then the fields in the rule's order. -/
def laneReport (l : Lane) (held : Bool) : List Byte :=
  laneStatusRecord l ++
    (w32 l.binding.item ++ [w8 l.binding.bay] ++ w16 l.binding.unitMass ++ w16 l.binding.tolerance ++
      w16 l.binding.lowMark ++ w16 l.binding.clearMark ++ [w8 l.binding.lowClass, w8 l.binding.emptyClass]) ++
    (w32s l.calibration.zero ++ w32s l.calibration.working ++ w32s l.calibration.gain ++ weighingBytes l.weighing) ++
    (w32s l.work.filtered ++ [w8 l.work.calm, w8 l.work.abnormalRun, w8 l.work.recoveryRun]) ++
    (w32s l.work.net ++ w16 l.work.count ++ [flag l.work.firm]) ++ w32s l.committed.net ++
    [w8 l.outcome.code, flag held]

/-- A watch rule's fields in the order of R109, the hit counter last (R117, R118). The kind set is sent as its four bits, and bits
4 to 7 of its byte as 0: DESIGN CHOICE (log entry 27). -/
def watchReport (r : WatchRule) : List Byte :=
  [flag r.config.enabled, w8 r.config.laneMode.code, w8 r.config.laneLow, w8 r.config.laneHigh,
    w8 r.config.kinds.toNat, w8 r.config.measure.code, w8 r.config.magnitudeMode.code] ++
    w32s r.config.magnitudeLow ++ w32s r.config.magnitudeHigh ++
    [w8 r.config.action.code, w8 r.config.cls, flag r.config.oneShot] ++ w16 r.hits

/-- A class record's four fields (R163). -/
def classBytes (c : ClassRecord) : List Byte :=
  [flag c.masked] ++ w16 c.renotify ++ [w8 c.escalateAfter] ++ w16 c.serviceLimit

/-- A bay's three settings (R183). -/
def baySettingsBytes (b : BaySettings) : List Byte :=
  [flag b.keyEnabled] ++ w16 b.windowLength ++ w16 b.longPress

/-- A pattern entry's three fields (R180). -/
def patternBytes (p : Pattern) : List Byte :=
  [w8 p.period, w8 p.onTime, flag p.startOn]

/-- The payload of GET_BAY's reply (R184). -/
def bayReport (b : BayId) (r : Bay) (patterns : Vector Pattern 5) : List Byte :=
  w8 b :: baySettingsBytes r.settings ++
    (flag r.window.isSome :: w16 (r.window.getD 0)) ++
    [w8 r.key.state.code, w8 r.key.hold, flag r.key.longDone] ++
    (match r.forced with
      | some o => w8 o.display.code :: w16 (o.remaining.getD 0)
      | none => w8 displayNone :: w16 0) ++
    [w8 r.selected.code, w8 r.phase, litCode r.lit] ++ patterns.toList.flatMap patternBytes

/-- The bytes of a reply frame, check sequence included (R188, R199). -/
def replyFrame (r : Reply) : List Byte :=
  let body := r.address :: r.tag :: r.kind :: w8 r.status.code :: w8 r.payload.length :: r.payload
  body ++ crcBytes (crc body)

end Sys2Proof.Machine
end

