-- ==== Sys2Proof/Machine/Ops.lean ====
section
/-! DEFINITION. The named operations over the state: one reader and one writer for each table, and the link interface's part in
every request (R186 to R190): receiving it, refusing or accepting it, and replying. -/

namespace Sys2Proof.Machine

/-! ### Readers and writers of the tables -/

/-- Every entry of a table rewritten by its own index and value. -/
def mapTable {α β : Type} {n : Nat} (v : Vector α n) (f : Fin n → α → β) : Vector β n :=
  Vector.ofFn fun i => f i v[i]

def State.lane (s : State) (n : LaneId) : Lane :=
  s.lanes[n]

def State.putLane (s : State) (n : LaneId) (l : Lane) : State :=
  { s with lanes := s.lanes.set n.val l n.isLt }

def State.held (s : State) (n : LaneId) : Option Movement :=
  s.holds[n]

def State.putHeld (s : State) (n : LaneId) (m : Option Movement) : State :=
  { s with holds := s.holds.set n.val m n.isLt }

def State.capture (s : State) (i : CaptureId) : Option Capture :=
  s.captures[i]

def State.putCapture (s : State) (i : CaptureId) (c : Option Capture) : State :=
  { s with captures := s.captures.set i.val c i.isLt }

def State.entry (s : State) (i : SlotId) : CallEntry :=
  s.calls[i]

def State.putEntry (s : State) (i : SlotId) (e : CallEntry) : State :=
  { s with calls := s.calls.set i.val e i.isLt }

/-- The call that a slot holds, if it is not free. -/
def State.callAt (s : State) (i : SlotId) : Option Call :=
  (s.entry i).call

/-- Rewrite the call of a slot; the generation stays (R124). -/
def State.putCall (s : State) (i : SlotId) (c : Call) : State :=
  s.putEntry i { s.entry i with call := some c }

def State.marker (s : State) (n : LaneId) : Markers :=
  s.markers[n]

def State.putMarker (s : State) (n : LaneId) (m : Markers) : State :=
  { s with markers := s.markers.set n.val m n.isLt }

def State.cls (s : State) (c : ClassId) : ClassRecord :=
  s.classes[c]

def State.bay (s : State) (b : BayId) : Bay :=
  s.bays[b]

def State.putBay (s : State) (b : BayId) (r : Bay) : State :=
  { s with bays := s.bays.set b.val r b.isLt }

def State.rule (s : State) (w : RuleId) : WatchRule :=
  s.rules[w]

def State.setReceiver (s : State) (r : Receiver) : State :=
  { s with link := { s.link with receiver := r } }

/-- Is a save running (R196)? -/
def State.saving (s : State) : Bool :=
  s.store.save == .saving

/-! ### Requests (R186 to R190) -/

/-- What the block that owns a request makes of it: the state after it, the reply's status, and the reply's payload. -/
structure Served where
  state  : State
  status : Status
  body   : List Byte
  deriving DecidableEq, Repr

/-- A request refused: it changes nothing, and its reply has no payload (R189). -/
def State.refuse (s : State) (st : Status) : Served :=
  ⟨s, st, []⟩

/-- A request accepted with status OK. -/
def State.accept (s : State) (body : List Byte) : Served :=
  ⟨s, .ok, body⟩

/-- The reply to a request (R189), in transmission: the receiver is in REPLYING (R186). -/
def Served.reply (r : Served) (h : Header) (kind : Nat) : State :=
  { r.state with
    link := { r.state.link with
      receiver := .replying
      reply := some { address := r.state.link.unitAddress, tag := h.tag, kind := w8 (kind + 128), status := r.status,
                      payload := r.body } } }

/-- What a frame with this header is to the unit (R187, R190). -/
inductive Addressed where
  | broadcast | mine | foreign
  deriving DecidableEq, Repr

def State.addressed (s : State) (h : Header) : Addressed :=
  if h.address = 0 then .broadcast else if h.address = s.link.unitAddress then .mine else .foreign

/-- A request frame of kind `kind` arrives whole. A part held in restart receives nothing (R198). A receiver in READY takes the
frame, goes to HUNT and judges it: a payload that no frame carries and a foreign address discard it (R187); addressed to this
unit, it is executed and answered (R189); a broadcast is executed and not answered, and one that only reports changes nothing
(R190). In HUNT, RECEIVING and REPLYING the characters open no frame, and the request is lost (R186). -/
def serve (kind : Nat) (reportOnly : Bool) (h : Header) (payload : List Byte) (act : State → Served) (s : State) : State :=
  if s.operating && s.link.receiver == .ready then
    if payload.length ≤ Config.payloadMax then
      match s.addressed h with
      | .mine => (act (s.setReceiver .hunt)).reply h kind
      | .broadcast => if reportOnly then s.setReceiver .hunt else (act (s.setReceiver .hunt)).state
      | .foreign => s.setReceiver .hunt
    else s.setReceiver .hunt
  else s

/-! ### The checks that several blocks share, in the manual's order of steps -/

/-- The lane that a lane field names; a number above 47 is refused with BAD_VALUE (R1). -/
def withLane (s : State) (b : Byte) (k : LaneId → Served) : Served :=
  match index 48 b with
  | some n => k n
  | none => s.refuse .badValue

/-- Refused with BUSY while a save runs (R196). -/
def unlessSaving (s : State) (k : Served) : Served :=
  if s.saving then s.refuse .busy else k

/-- Refused with LANE_OFF on an OFF lane (R8, R78). -/
def unlessOff (s : State) (n : LaneId) (k : Served) : Served :=
  if (s.lane n).state = .off then s.refuse .laneOff else k

/-- Refused with LANE_BUSY on a lane in CAPTURE (R8, R78). -/
def unlessCapture (s : State) (n : LaneId) (k : Served) : Served :=
  if (s.lane n).state = .capture then s.refuse .laneBusy else k

/-- Refused with the given status unless the condition holds. -/
def require (s : State) (ok : Bool) (st : Status) (k : Served) : Served :=
  if ok then k else s.refuse st

end Sys2Proof.Machine
end

