-- ==== Sys2Proof/Machine/Calls.lean ====
section
/-! DEFINITION. The call controller (chapter 8): sources, the call table, raising, the class rule, clearance, unplaced markers,
placement, sweeps, the offer. Every operation acts whole before the next event (R122). -/

namespace Sys2Proof.Machine

/-! ### Sources (R70, R122) -/

/-- Is the lane's FAULT source asserted: in FAULT, or drift set (R48, R122)? -/
def Lane.faultAsserted (l : Lane) : Bool :=
  l.state == .fault || l.work.drift

/-- Is the lane's RESTOCK source asserted: LOW or EMPTY (R70)? -/
def Lane.restockAsserted (l : Lane) : Bool :=
  l.committed.level == .low || l.committed.level == .empty

/-- The class that the lane's RESTOCK source carries (R70): the empty class while EMPTY, the low class otherwise. -/
def Lane.restockClass (l : Lane) : ClassId :=
  if l.committed.level = .empty then l.binding.emptyClass else l.binding.lowClass

/-- Is the source of this cause asserted? A WATCH source is an edge and is never held asserted (R122). -/
def Lane.asserts (l : Lane) : Cause → Bool
  | .restock => l.restockAsserted
  | .fault => l.faultAsserted
  | .watch => false

/-- May a call be raised for the lane: neither OFF nor suspended (R126)? -/
def Lane.raisable (l : Lane) : Bool :=
  l.state != .off && !l.binding.suspended

/-! ### The table (R124) -/

/-- Does this slot hold the lane's call of this cause? -/
def State.isCallOf (s : State) (n : LaneId) (c : Cause) (i : SlotId) : Bool :=
  match s.callAt i with
  | some k => k.lane == n && k.cause == c
  | none => false

/-- The slot of the lane's call of a cause, if it has one. -/
def State.findCall (s : State) (n : LaneId) (c : Cause) : Option SlotId :=
  (List.finRange 32).find? (s.isCallOf n c)

/-- The lowest-numbered free entry (R126). -/
def State.freeSlot (s : State) : Option SlotId :=
  (List.finRange 32).find? fun i => (s.callAt i).isNone

/-- Free an entry: the generation advances, modulo 256 (R124). -/
def State.freeEntry (s : State) (i : SlotId) : State :=
  s.putEntry i { generation := (s.entry i).generation + 1, call := none }

/-- Free every entry whose call satisfies `p`. -/
def State.freeWhere (s : State) (p : Call → Bool) : State :=
  { s with calls := mapTable s.calls fun _ e =>
      match e.call with
      | some c => if p c then { generation := e.generation + 1, call := none } else e
      | none => e }

/-- The number of calls that satisfy `p`. -/
def State.countCalls (s : State) (p : Call → Bool) : Nat :=
  s.calls.toList.countP fun e =>
    match e.call with
    | some c => p c
    | none => false

/-! ### Timers' loads (R132, R154, R158) -/

/-- An aging timer's load from a renotify period: stopped when the period is 0 (R154). -/
def agingLoad (r : ClassRecord) : Option Nat :=
  if r.renotify = 0 then none else some r.renotify

/-- A service timer's load from a service limit: none when the limit is 0 (R132). -/
def serviceLoad (r : ClassRecord) : Option Nat :=
  if r.serviceLimit = 0 then none else some r.serviceLimit

/-! ### Raising (R126, R133, R134) -/

/-- A call as it is raised or placed (R126, R135). -/
def State.newCall (s : State) (n : LaneId) (c : Cause) (k : ClassId) : Call :=
  { lane := n, cause := c, cls := k, state := .raised, overdue := false, rehit := false, nag := 0, repeats := 0,
    raiseTick := s.tick, takeTick := none, aging := agingLoad (s.cls k), service := none }

/-- Raise a call into a free entry, with NEW_CALL under R133. -/
def State.raiseAt (s : State) (i : SlotId) (n : LaneId) (c : Cause) (k : ClassId) : State :=
  (s.putCall i (s.newCall n c k)).noteNewCall k

/-- Is the marker of this cause set (R134)? -/
def Markers.has (m : Markers) : Cause → Bool
  | .restock => m.restock
  | .fault => m.fault
  | .watch => m.watch.isSome

/-- The markers with that of this cause set; a WATCH marker holds `k`, or the more urgent of `k` and the class it held (R134). -/
def Markers.mark (m : Markers) (c : Cause) (k : ClassId) : Markers :=
  match c with
  | .restock => { m with restock := true }
  | .fault => { m with fault := true }
  | .watch => { m with watch := some (match m.watch with | some h => min h k | none => k) }

/-- The markers with that of this cause clear. -/
def Markers.unmark (m : Markers) : Cause → Markers
  | .restock => { m with restock := false }
  | .fault => { m with fault := false }
  | .watch => { m with watch := none }

def State.mark (s : State) (n : LaneId) (c : Cause) (k : ClassId) : State :=
  s.putMarker n ((s.marker n).mark c k)

def State.unmark (s : State) (n : LaneId) (c : Cause) : State :=
  s.putMarker n ((s.marker n).unmark c)

/-- The number of set markers (R134). -/
def Markers.count (m : Markers) : Nat :=
  (if m.restock then 1 else 0) + (if m.fault then 1 else 0) + (if m.watch.isSome then 1 else 0)

/-- The unplaced count (R134). -/
def State.unplaced (s : State) : Nat :=
  (s.markers.toList.map Markers.count).sum

/-- A source that needs a call gets it in the lowest free entry, or its marker (R126). -/
def State.need (s : State) (n : LaneId) (c : Cause) (k : ClassId) : State :=
  match s.freeSlot with
  | some i => s.raiseAt i n c k
  | none => s.mark n c k

/-! ### Assertion, the class rule, return to TAKEN, rehit (R127, R128, R130, R131) -/

/-- The class rule: the more urgent of the call's own class and the offered one (R128). -/
def Call.offered (k : Call) (c : ClassId) : Call :=
  { k with cls := min k.cls c }

/-- What an assertion does to the existing call (R127): the class rule; a SATISFIED call returns to TAKEN; a WATCH hit on a TAKEN
call sets rehit. -/
def Call.asserted (k : Call) (c : ClassId) : Call :=
  match k.state with
  | .raised => k.offered c
  | .taken => if k.cause = .watch then { k.offered c with rehit := true } else k.offered c
  | .satisfied => { k.offered c with state := .taken }

/-- Offer a class to the lane's call of a cause, if it has one (R128). -/
def State.offerClass (s : State) (n : LaneId) (c : Cause) (k : ClassId) : State :=
  match s.findCall n c with
  | some i => match s.callAt i with
    | some call => s.putCall i (call.offered k)
    | none => s
  | none => s

/-- A source asserts with class `k`, or a watch rule hits (R126, R127). -/
def State.assertSource (s : State) (n : LaneId) (c : Cause) (k : ClassId) : State :=
  match s.findCall n c with
  | some i => match s.callAt i with
    | some call => s.putCall i (call.asserted k)
    | none => s
  | none =>
    if (s.marker n).has c then s.mark n c k
    else if (s.lane n).raisable then s.need n c k
    else s

/-! ### Placement (R135) -/

/-- A need for a call: lane, cause and the class it carries. -/
structure Need where
  lane  : LaneId
  cause : Cause
  cls   : ClassId
  deriving DecidableEq, Repr

/-- Needs in the placement order, given them by ascending lane and, within a lane, FAULT, RESTOCK, WATCH: the most urgent class
first, and the given order within a class (R135, R145). -/
def placementOrder (l : List Need) : List Need :=
  (List.finRange 8).flatMap fun c => l.filter fun x => x.cls == c

/-- The set markers of one lane with the class each carries now, in the cause order (R135). -/
def State.markedNeeds (s : State) (n : LaneId) : List Need :=
  (if (s.marker n).fault then [⟨n, .fault, s.device.faultClass⟩] else []) ++
    (if (s.marker n).restock then [⟨n, .restock, (s.lane n).restockClass⟩] else []) ++
    (match (s.marker n).watch with | some k => [⟨n, .watch, k⟩] | none => [])

/-- The marker that placement chooses next (R135). -/
def State.nextMarked (s : State) : Option Need :=
  (placementOrder ((List.finRange 48).flatMap s.markedNeeds)).head?

/-- One choice of the placement arbiter: `none` when no entry is free or no marker is set. -/
def State.placeOne (s : State) : Option State :=
  match s.freeSlot with
  | some i => match s.nextMarked with
    | some x => some ((s.unmark x.lane x.cause).raiseAt i x.lane x.cause x.cls)
    | none => none
  | none => none

/-- At most `fuel` placements. -/
def State.placeUpTo (s : State) : Nat → State
  | 0 => s
  | fuel + 1 => match s.placeOne with
    | some t => t.placeUpTo fuel
    | none => s

/-- Placement: fills free entries from markers until no marker is set or no entry is free (R135); 32 entries bound it. -/
def State.place (s : State) : State :=
  s.placeUpTo 32

/-! ### Clearance (R129) -/

/-- A source clears: a RAISED call is withdrawn, a TAKEN one is satisfied, a marker is cleared (R129). -/
def State.clearSource (s : State) (n : LaneId) (c : Cause) : State :=
  match s.findCall n c with
  | some i => match s.callAt i with
    | some call => match call.state with
      | .raised => (s.freeEntry i).place
      | .taken => s.putCall i { call with state := .satisfied }
      | .satisfied => s
    | none => s
  | none => s.unmark n c

/-- The hand-off of a level change (R72). A change from EMPTY to LOW offers nothing to an existing call (R128). -/
def State.handLevel (s : State) (n : LaneId) (before after : Level) : State :=
  match before, after with
  | .none, .low => s.assertSource n .restock (s.lane n).binding.lowClass
  | .ok, .low => s.assertSource n .restock (s.lane n).binding.lowClass
  | .none, .empty => s.assertSource n .restock (s.lane n).binding.emptyClass
  | .ok, .empty => s.assertSource n .restock (s.lane n).binding.emptyClass
  | .low, .empty => s.assertSource n .restock (s.lane n).binding.emptyClass
  | .empty, .low =>
    if (s.findCall n .restock).isSome then s else s.assertSource n .restock (s.lane n).binding.lowClass
  | .low, .ok => s.clearSource n .restock
  | .empty, .ok => s.clearSource n .restock
  | _, _ => s

/-- The hand-off of a change of the FAULT source: from `before` asserted to what the lane asserts now (R48, R122). -/
def State.handFault (s : State) (n : LaneId) (before : Bool) : State :=
  if (s.lane n).faultAsserted then
    if before then s else s.assertSource n .fault s.device.faultClass
  else if before then s.clearSource n .fault else s

/-! ### Suspension, sweeps, clearing, unbinding (R144 to R147) -/

/-- SUSPEND_LANE's part: the lane's markers, then its RAISED calls, then placement (R144). -/
def State.suspendCalls (s : State) (n : LaneId) : State :=
  ((s.putMarker n Markers.clear).freeWhere fun c => c.lane == n && c.state == .raised).place

/-- UNBIND_LANE's part: the lane's markers, then all its calls, then placement (R147). -/
def State.unbindCalls (s : State) (n : LaneId) : State :=
  ((s.putMarker n Markers.clear).freeWhere fun c => c.lane == n).place

/-- Does the lane need a call of this cause that it neither has nor is marked for (R145)? -/
def State.unmet (s : State) (n : LaneId) (c : Cause) : Bool :=
  (s.lane n).raisable && (s.lane n).asserts c && (s.findCall n c).isNone && !(s.marker n).has c

/-- The needs that a sweep collects on one lane, FAULT before RESTOCK (R145). -/
def State.sweptNeeds (s : State) (n : LaneId) : List Need :=
  (if s.unmet n .fault then [⟨n, .fault, s.device.faultClass⟩] else []) ++
    (if s.unmet n .restock then [⟨n, .restock, (s.lane n).restockClass⟩] else [])

/-- A source sweep over the given lanes: every need is collected at once and raised in the placement order (R145). -/
def State.sweep (s : State) (lanes : List LaneId) : State :=
  (placementOrder (lanes.flatMap s.sweptNeeds)).foldl (fun t x => t.need x.lane x.cause x.cls) s

/-- CLEAR_CALLS: every entry freed, every marker cleared, a sweep over all lanes (R146). -/
def State.clearCalls (s : State) : State :=
  let t := s.freeWhere fun _ => true
  let u := { t with markers := Vector.replicate 48 Markers.clear }
  u.sweep (List.finRange 48)

/-- The fault class changed: every existing FAULT call is offered the new class (R123). -/
def State.offerFaultClass (s : State) (k : ClassId) : State :=
  { s with calls := mapTable s.calls fun _ e =>
      match e.call with
      | some c => if c.cause = .fault then { e with call := some (c.offered k) } else e
      | none => e }

/-! ### Offer and listing (R136 to R138) -/

/-- The call record of a slot as it stands (R136). -/
def State.recordOf (s : State) (i : SlotId) (c : Call) : List Byte :=
  callRecord i (s.entry i).generation (s.lane c.lane).binding.item c

/-- Is the call in the offer: RAISED in an unmasked class (R137)? -/
def State.offerable (s : State) (c : Call) : Bool :=
  c.state == .raised && !(s.cls c.cls).masked

/-- The age of a stored tick as the part judges it: the ticks elapsed, counted modulo 2^32 (R99, R137). A count above 2^31 stands
for a tick still to come, so a tick older than that is judged newer than it is (R152). DEDUCED (log entry 29). -/
def State.age (s : State) (t : Tick) : Int :=
  if (s.tick - t).toNat ≤ Config.ageLimit then (s.tick - t).toNat else (s.tick - t).toNat - 4294967296

/-- Is `a` offered before `b`, `b` standing in a lower slot: a more urgent class, or the same class and an older raise (R137)? -/
def State.offeredBefore (s : State) (a b : Call) : Bool :=
  decide (a.cls < b.cls) || (a.cls == b.cls && decide (s.age a.raiseTick > s.age b.raiseTick))

/-- The offer: slot and call (R137). -/
def State.offer (s : State) : Option (SlotId × Call) :=
  (List.finRange 32).foldl
    (fun best i => match s.callAt i with
      | some c =>
        if s.offerable c then
          match best with
          | some (j, b) => if s.offeredBefore c b then some (i, c) else some (j, b)
          | none => some (i, c)
        else best
      | none => best)
    none

/-- The records of the occupied entries at or above a slot, in slot order (R138). -/
def State.recordsFrom (s : State) (start : SlotId) : List (List Byte) :=
  ((List.finRange 32).filter fun i => decide (start ≤ i)).filterMap fun i => (s.callAt i).map (s.recordOf i)

/-! ### Taking and closing (R140 to R142) -/

/-- The call after TAKE_CALL (R140). -/
def State.takenCall (s : State) (c : Call) : Call :=
  { c with state := .taken, takeTick := some s.tick, aging := none, service := serviceLoad (s.cls c.cls) }

/-- Does CLOSE_CALL return this call to RAISED (R141, R142)? -/
def State.returns (s : State) (c : Call) : Bool :=
  !(s.lane c.lane).binding.suspended && c.state == .taken &&
    (if c.cause = .watch then c.rehit else (s.lane c.lane).asserts c.cause)

/-- The call after a CLOSE_CALL that returns it to RAISED (R141). -/
def State.returnedCall (s : State) (c : Call) : Call :=
  { c with state := .raised, takeTick := none, repeats := min 255 (c.repeats + 1), nag := 0, overdue := false,
           rehit := false, service := none, aging := agingLoad (s.cls c.cls) }

end Sys2Proof.Machine
end

