-- ==== Sys2Proof/Machine/Weighing.lean ====
section
/-! DEFINITION. The weighing engine's arithmetic on one lane record (chapter 3): the condition of a conversion, the filter and the
calm test, net grams, the case estimate, zero tracking, the working-zero clamp. Whole numbers throughout. -/

namespace Sys2Proof.Machine

/-! ### The conversion (R23) -/

/-- The raw value of a reading, in counts. -/
def rawValue (rd : Reading) : Int :=
  rd.raw.toInt

/-- The condition of a conversion, in the order of R23. -/
def condition (rd : Reading) : Condition :=
  if rd.lowCurrent then .noResponse
  else if rawValue rd = Config.rawMin ∨ rawValue rd = Config.rawMax then .clipped
  else .normal

/-- The fault reason that an abnormal condition gives (R50, R51). -/
def Condition.reason : Condition → FaultReason
  | .normal => .none
  | .clipped => .clipped
  | .noResponse => .noResponse

/-! ### The filter and the calm test (R35 to R37) -/

/-- The deviation D = r − F of a reading (R35). -/
def deviation (l : Lane) (r : Int) : Int :=
  r - l.work.filtered

/-- Does this reading restart the filter: |D| > J (R35)? -/
def restartsFilter (l : Lane) (r : Int) : Bool :=
  decide ((deviation l r).natAbs > l.weighing.jump)

/-- The step of the filter for deviation `d` and shift `k` above 0 (R36): |d| / 2^k rounded to nearest, with the sign of d. -/
def filterStep (k : Nat) (d : Int) : Int :=
  d.sign * ((d.natAbs + 2 ^ (k - 1)) / 2 ^ k : Nat)

/-- F after a reading that does not restart the filter (R36). -/
def filtered (l : Lane) (r : Int) : Int :=
  if l.weighing.shift = 0 then r else l.work.filtered + filterStep l.weighing.shift (deviation l r)

/-- The calm count after the calm test against the new F (R37). -/
def calmAfter (l : Lane) (f r : Int) : Nat :=
  if (r - f).natAbs ≤ l.weighing.band then min 255 (l.work.calm + 1) else 0

/-- F and the calm count after a NORMAL conversion (R35 to R37). -/
def filterResult (l : Lane) (r : Int) : Int × Nat :=
  if restartsFilter l r then (r, 0) else (filtered l r, calmAfter l (filtered l r) r)

/-- The lane after the filter and the calm test of a NORMAL conversion, its abnormal run back at 0 (R33). -/
def Lane.filter (l : Lane) (r : Int) : Lane :=
  { l with work := { l.work with
      filtered := (filterResult l r).1, calm := (filterResult l r).2, abnormalRun := 0 } }

/-- The lane after a restart of the filter at `r` without a calm test (R52, R81). -/
def Lane.refilter (l : Lane) (r : Int) : Lane :=
  { l with work := { l.work with filtered := r, calm := 0, abnormalRun := 0 } }

/-! ### Net grams and the case estimate (R40 to R45) -/

/-- P / 65,536 rounded to nearest, halves away from zero (R40). -/
def roundGrams (p : Int) : Int :=
  p.sign * ((p.natAbs + 32768) / 65536 : Nat)

/-- The net before the clamp (R40). -/
def rawNet (l : Lane) : Int :=
  roundGrams ((l.work.filtered - l.calibration.working) * l.calibration.gain)

/-- The net, clamped (R41). -/
def netOf (g : Int) : Int :=
  max (-Config.netLimit) (min Config.netLimit g)

/-- The estimate before the cap (R43). -/
def rawCount (g : Int) (u : Nat) : Nat :=
  if g ≤ 0 then 0 else (2 * g.toNat + u) / (2 * u)

/-- The estimate, capped (R43). -/
def countOf (g : Int) (u : Nat) : Nat :=
  min Config.countCap (rawCount g u)

/-- The per-mille residual (R44). -/
def perMille (g : Int) (n u : Nat) : Nat :=
  (g - n * u).natAbs * 1000 / u

/-- Is the estimate firm (R44)? `g0` is the net before the clamp. -/
def firmOf (g0 : Int) (u tolerance : Nat) : Bool :=
  decide (perMille (netOf g0) (countOf (netOf g0) u) u ≤ tolerance) &&
    decide (rawCount (netOf g0) u ≤ Config.countCap) && decide (netOf g0 = g0)

/-- The lane with its current net, count and firmness computed from F (R42). -/
def Lane.measured (l : Lane) : Lane :=
  { l with work := { l.work with
      net := netOf (rawNet l)
      count := countOf (netOf (rawNet l)) l.binding.unitMass
      firm := firmOf (rawNet l) l.binding.unitMass l.binding.tolerance } }

/-! ### Zero tracking and the clamp of Z (R14, R46, R47) -/

/-- Does zero tracking apply at a plateau, after the plateau logic's work (R46)? -/
def tracks (l : Lane) : Bool :=
  !l.binding.suspended && decide (l.committed.count = 0) && l.committed.firm && decide (l.weighing.trackStep > 0)

/-- Z after a move toward F by at most the track step (R47). -/
def trackedZero (l : Lane) : Int :=
  let gap := l.work.filtered - l.calibration.working
  l.calibration.working + gap.sign * (min gap.natAbs l.weighing.trackStep : Nat)

/-- Does `z` lie within Z0 ± track limit (R3)? -/
def withinTrack (l : Lane) (z : Int) : Bool :=
  decide ((z - l.calibration.zero).natAbs ≤ l.weighing.trackLimit)

/-- The lane after zero tracking (R47): Z moves and drift clears, or Z takes the end of the range on the side of the move and
drift is set. A needed move of 0 leaves Z and clears drift. -/
def Lane.tracked (l : Lane) : Lane :=
  let gap := l.work.filtered - l.calibration.working
  if gap = 0 then { l with work := { l.work with drift := false } }
  else if withinTrack l (trackedZero l) then
    { l with calibration := { l.calibration with working := trackedZero l }, work := { l.work with drift := false } }
  else
    { l with
      calibration := { l.calibration with working := l.calibration.zero + gap.sign * l.weighing.trackLimit }
      work := { l.work with drift := true } }

/-- Z clamped into Z0 ± limit (R14). -/
def clampZero (zero z : Int) (limit : Nat) : Int :=
  max (zero - limit) (min (zero + limit) z)

/-! ### The level (R67) -/

/-- The level computed from the committed count, the marks and the level before (R67). -/
def levelOf (count low clear : Nat) (before : Level) : Level :=
  if count = 0 then .empty
  else if count ≤ low then .low
  else if count < clear then
    match before with
    | .none => .ok
    | .ok => .ok
    | .low => .low
    | .empty => .low
  else .ok

end Sys2Proof.Machine
end

