-- ==== Sys2Proof/Machine/Captures.lean ====
section
/-! DEFINITION. The capture unit (chapter 5): slots, acceptance, completion, and the other endings. -/

namespace Sys2Proof.Machine

/-- Does this slot run a capture of the lane? -/
def State.isCaptureOf (s : State) (n : LaneId) (i : CaptureId) : Bool :=
  match s.capture i with
  | some c => c.lane == n
  | none => false

/-- The slot that runs for a lane, if one does (R77). -/
def State.captureSlot (s : State) (n : LaneId) : Option CaptureId :=
  (List.finRange 4).find? (s.isCaptureOf n)

/-- The lowest-numbered FREE slot (R77). -/
def State.freeCapture (s : State) : Option CaptureId :=
  (List.finRange 4).find? fun i => (s.capture i).isNone

/-- The number of RUNNING slots (R77). -/
def State.runningCaptures (s : State) : Nat :=
  s.captures.toList.countP Option.isSome

/-- The slot's contents when a capture is accepted (R79). -/
def State.newCapture (s : State) (n : LaneId) (kind : CaptureKind) (mass : Nat) : Capture :=
  { lane := n, kind := kind, testMass := mass, restartPending := true, remaining := s.device.captureTimeout }

/-- The lane enters CAPTURE (R79). -/
def Lane.enterCapture (l : Lane) : Lane :=
  { l with state := .capture, work := { l.work with calm := 0 }, outcome := .running }

/-- A capture is accepted into slot `i` (R79). -/
def State.beginCapture (s : State) (i : CaptureId) (n : LaneId) (kind : CaptureKind) (mass : Nat) : State :=
  (s.putCapture i (some (s.newCapture n kind mass))).putLane n (s.lane n).enterCapture

/-- The lane leaves CAPTURE for MOVING, with calm count 0 and the outcome given (R86, R87). -/
def Lane.leaveCapture (l : Lane) (o : CaptureOutcome) : Lane :=
  { l with state := .moving, work := { l.work with calm := 0 }, outcome := o }

/-- A capture ends by timeout or by cancellation: the slot is freed and the lane leaves CAPTURE (R86, R87). -/
def State.endCapture (s : State) (i : CaptureId) (n : LaneId) (o : CaptureOutcome) : State :=
  (s.putCapture i none).putLane n ((s.lane n).leaveCapture o)

/-- A fault aborts the lane's capture, if it has one: the slot is freed, the outcome is ABORTED_FAULT (R88). -/
def State.abortCapture (s : State) (n : LaneId) : State :=
  match s.captureSlot n with
  | some i => (s.putCapture i none).putLane n { s.lane n with outcome := .abortedFault }
  | none => s

/-- The lane after a completed ZERO capture (R83, R85). -/
def Lane.zeroed (l : Lane) : Lane :=
  { l with
    state := .stable
    calibration := { l.calibration with zero := l.work.filtered, working := l.work.filtered }
    work := { l.work with drift := false }
    binding := { l.binding with baselineNeeded := true }
    outcome := .done }

/-- The gain that a span gives for excursion `e` and test mass `m` (R84); none when the capture is rejected. -/
def spanGain (e : Int) (m : Nat) : Option Nat :=
  if e < 1000 then none
  else
    let g := (m * 65536 + e.toNat / 2) / e.toNat
    if 1 ≤ g ∧ g ≤ Config.gainMax then some g else none

/-- The lane after a completed SPAN capture (R84, R85). -/
def Lane.spanned (l : Lane) (m : Nat) : Lane :=
  match spanGain (l.work.filtered - l.calibration.zero) m with
  | some g => { l with state := .stable, calibration := { l.calibration with gain := g }, outcome := .done }
  | none => { l with state := .stable, outcome := .rejected }

/-- A capture of lane `n` in slot `i` completes (R82 to R85): the slot is freed, the lane is STABLE, and a ZERO capture that
clears drift hands the change of the FAULT source on. -/
def State.completeCapture (s : State) (i : CaptureId) (n : LaneId) (c : Capture) : State :=
  match c.kind with
  | .zero =>
    let t := (s.putCapture i none).putLane n (s.lane n).zeroed
    if (s.lane n).work.drift then t.clearSource n .fault else t
  | .span => (s.putCapture i none).putLane n ((s.lane n).spanned c.testMass)

/-- Does the calm count complete a capture of this lane (R82)? -/
def captureCalmReached (l : Lane) : Bool :=
  decide (max l.weighing.settle Config.captureCalm ≤ l.work.calm)

/-- A NORMAL conversion reaches a lane in CAPTURE whose slot is `i` (R81, R82): the first restarts the filter, a later one runs
the filter and the calm test and may complete the capture. -/
def State.captureNormal (s : State) (n : LaneId) (i : CaptureId) (c : Capture) (r : Int) : State :=
  if c.restartPending then
    (s.putCapture i (some { c with restartPending := false })).putLane n ((s.lane n).refilter r)
  else
    let l := (s.lane n).filter r
    let t := s.putLane n l
    if captureCalmReached l then t.completeCapture i n c else t

/-- The tick at one slot (R86): the timeout counts down, and a capture whose timeout reaches 0 times out. -/
def State.captureTick (s : State) (i : CaptureId) : State :=
  match s.capture i with
  | some c =>
    if c.remaining ≤ 1 then s.endCapture i c.lane .timeout
    else s.putCapture i (some { c with remaining := c.remaining - 1 })
  | none => s

/-- The tick at the capture unit (R86, R153). -/
def State.capturesTick (s : State) : State :=
  (List.finRange 4).foldl State.captureTick s

/-- The lane after SET_CALIBRATION (R91). -/
def Lane.calibrated (l : Lane) (zero : Int) (gain : Nat) : Lane :=
  { l with
    calibration := { zero := zero, working := zero, gain := gain }
    work := { l.work with drift := false }
    binding := { l.binding with baselineNeeded := true } }

end Sys2Proof.Machine
end

