-- ==== Sys2Proof/Machine/Journal.lean ====
section
/-! DEFINITION. The movement journal (chapter 6): entry, hold slots, merging, the drain. -/

namespace Sys2Proof.Machine

/-- A gram delta saturated to its range (R97). -/
def saturateDelta (x : Int) : Int :=
  max (-Config.deltaLimit) (min Config.deltaLimit x)

/-- The kind of a merged record whose counts differ (R98). -/
def mergedKind (old new : Movement) : MoveKind :=
  if old.kind = .recount ∨ new.kind = .recount then .recount
  else if new.after < old.before then .withdraw
  else if new.kind = .giveBack ∨ new.kind = .replenish then new.kind
  else if old.kind = .replenish then .replenish else .giveBack

/-- A movement folded into the held record of its lane (R97, R98): `none` when the merged record is discarded. -/
def merge (old new : Movement) : Option Movement :=
  if new.after = old.before then none
  else some
    { tick := old.tick, lane := old.lane, kind := mergedKind old new, before := old.before, after := new.after,
      delta := saturateDelta (old.delta + new.delta), loose := old.loose || new.loose, merged := true,
      contributors := min 255 (old.contributors + new.contributors) }

/-- A record enters the journal at the tail (R93), with JOURNAL under R102. -/
def State.append (s : State) (m : Movement) : State :=
  ({ s with journal := s.journal ++ [m] }).noteJournalEntry

/-- A record enters its lane's empty hold slot, and sets HELD (R96). -/
def State.hold (s : State) (m : Movement) : State :=
  (s.putHeld m.lane (some m)).notify fun a => { a with held := true }

/-- A movement reaches the journal (R95). -/
def State.journalEntry (s : State) (m : Movement) : State :=
  if s.journal.length < Config.journalCapacity then s.append m
  else match s.held m.lane with
    | none => s.hold m
    | some old => s.putHeld m.lane (merge old m)

/-- The number of occupied hold slots. -/
def State.heldCount (s : State) : Nat :=
  s.holds.toList.countP Option.isSome

/-- The held record that the drain chooses: the oldest tick, then the lower lane (R99). -/
def State.oldestHeld (s : State) : Option (LaneId × Movement) :=
  (List.finRange 48).foldl
    (fun best n => match s.held n with
      | some m => match best with
        | some (k, b) => if s.age m.tick > s.age b.tick then some (n, m) else some (k, b)
        | none => some (n, m)
      | none => best)
    none

/-- One move of the drain: `none` when the journal is full or no hold slot is occupied. -/
def State.drainOne (s : State) : Option State :=
  if s.journal.length < Config.journalCapacity then
    match s.oldestHeld with
    | some (n, m) => some ((s.putHeld n none).append m)
    | none => none
  else none

/-- At most `fuel` moves of the drain. -/
def State.drainUpTo (s : State) : Nat → State
  | 0 => s
  | fuel + 1 => match s.drainOne with
    | some t => t.drainUpTo fuel
    | none => s

/-- The drain: held records to the journal's tail until it is full or every slot is empty (R99); 48 slots bound it. -/
def State.drain (s : State) : State :=
  s.drainUpTo 48

/-- Remove `k` records from the head; a removal of at least one is followed by the drain (R105). -/
def State.removeHead (s : State) (k : Nat) : State :=
  if min k s.journal.length = 0 then s else ({ s with journal := s.journal.drop k }).drain

/-- The journal and every hold slot emptied (R106). -/
def State.clearJournal (s : State) : State :=
  { s with journal := [], holds := Vector.replicate 48 none }

end Sys2Proof.Machine
end

