-- ==== Sys2Proof/Machine/Watch.lean ====
section
/-! DEFINITION. The watch unit (chapter 7): the three tests, and the evaluation of one movement against the eight rules. -/

namespace Sys2Proof.Machine

/-- The lane test (R111). -/
def laneTest (c : WatchConfig) (n : LaneId) : Bool :=
  match c.laneMode with
  | .equal => n == c.laneLow
  | .inside => decide (c.laneLow ≤ n) && decide (n ≤ c.laneHigh)
  | .outside => decide (n < c.laneLow) || decide (c.laneHigh < n)

/-- The kind test: membership of the kind set, bit by code (R112, R191). -/
def kindTest (c : WatchConfig) (k : MoveKind) : Bool :=
  c.kinds.getLsbD k.code

/-- The size of a movement by a measure (R112). -/
def moveSize (m : Movement) : Measure → Nat
  | .count => ((m.after : Int) - m.before).natAbs
  | .grams => m.delta.natAbs

/-- The magnitude test (R112). -/
def magnitudeTest (c : WatchConfig) (m : Movement) : Bool :=
  match c.magnitudeMode with
  | .inside => decide (c.magnitudeLow ≤ moveSize m c.measure) && decide (moveSize m c.measure ≤ c.magnitudeHigh)
  | .outside => decide (moveSize m c.measure < c.magnitudeLow) || decide (c.magnitudeHigh < moveSize m c.measure)

/-- Does an enabled rule match a movement (R113, R114)? -/
def ruleMatches (r : WatchRule) (m : Movement) : Bool :=
  r.config.enabled && laneTest r.config m.lane && kindTest r.config m.kind && magnitudeTest r.config m

/-- A rule after a movement: a match counts, saturating, and disables a one-shot rule (R114). -/
def ruleAfter (r : WatchRule) (m : Movement) : WatchRule :=
  if ruleMatches r m then
    { hits := min 65535 (r.hits + 1), config := { r.config with enabled := r.config.enabled && !r.config.oneShot } }
  else r

/-- The class of the WATCH hit of a movement: the most urgent among the matching RAISE rules; none when no RAISE rule matches
(R115). -/
def watchHit (rules : Vector WatchRule 8) (m : Movement) : Option ClassId :=
  rules.toList.foldl
    (fun best r =>
      if ruleMatches r m && r.config.action == .raise then
        match best with
        | some k => some (min k r.config.cls)
        | none => some r.config.cls
      else best)
    none

/-- The watch unit evaluates a movement, and hands at most one WATCH hit to the call controller (R113 to R115). -/
def State.watchEvaluate (s : State) (m : Movement) : State :=
  let t := { s with rules := mapTable s.rules fun _ r => ruleAfter r m }
  match watchHit s.rules m with
  | some k => t.assertSource m.lane .watch k
  | none => t

end Sys2Proof.Machine
end

