-- ==== Sys2Proof/Machine/Plateau.lean ====
section
/-! DEFINITION. The plateau logic (chapter 4) with the zero tracking that follows it (R46). The lane is STABLE, its current values
computed from the plateau's conversion, when this work begins. -/

namespace Sys2Proof.Machine

/-- Is the restock window of a bay open (R63, R64)? -/
def State.windowOpen (s : State) (b : BayId) : Bool :=
  (s.bay b).window.isSome

/-- The kind of a movement at its plateau (R63). -/
def moveKind (l : Lane) (windowOpen : Bool) : MoveKind :=
  if l.committed.recountDue then .recount
  else if l.work.count < l.committed.count then .withdraw
  else if windowOpen || l.committed.carryOver then .replenish
  else .giveBack

/-- The movement record as the plateau logic forms it (R61), from the lane before the commit. -/
def State.formMovement (s : State) (n : LaneId) : Movement :=
  let l := s.lane n
  { tick := s.tick, lane := n, kind := moveKind l (s.windowOpen l.binding.bay), before := l.committed.count,
    after := l.work.count, delta := l.work.net - l.committed.net, loose := !l.work.firm, merged := false,
    contributors := 1 }

/-- The lane after a commit of its current values against the level `before` (R58, R59, R60): count, net, firmness, level, and
carry-over and recount due cleared. -/
def Lane.commit (l : Lane) (before : Level) : Lane :=
  { l with committed :=
      { count := l.work.count, net := l.work.net, firm := l.work.firm
        level := levelOf l.work.count l.binding.lowMark l.binding.clearMark before
        carryOver := false, recountDue := false } }

/-- A baseline plateau (R58): commit with the level from scratch, baseline needed cleared, the level handed on, and the source
sweep of R73 if the level before was NONE. -/
def State.baseline (s : State) (n : LaneId) : State :=
  let l := s.lane n
  let l' := { l.commit .none with binding := { l.binding with baselineNeeded := false } }
  let t := (s.putLane n l').handLevel n l.committed.level l'.committed.level
  if l.committed.level = .none then t.sweep [n] else t

/-- An ordinary plateau (R59, R60, R71): a movement when the count changed, the commit, and the hand-offs in order: watch unit,
journal, level. -/
def State.ordinary (s : State) (n : LaneId) : State :=
  let l := s.lane n
  let l' := l.commit l.committed.level
  let t := s.putLane n l'
  let u := if l.work.count = l.committed.count then t
    else (t.watchEvaluate (s.formMovement n)).journalEntry (s.formMovement n)
  u.handLevel n l.committed.level l'.committed.level

/-- Zero tracking after the plateau logic's work, its change of drift handed on (R46 to R48). -/
def State.track (s : State) (n : LaneId) : State :=
  if tracks (s.lane n) then
    (s.putLane n (s.lane n).tracked).handFault n (s.lane n).faultAsserted
  else s

/-- The plateau logic, by its three paths (R55), and the zero tracking that follows. A suspended plateau commits nothing (R56). -/
def State.plateau (s : State) (n : LaneId) : State :=
  if (s.lane n).binding.suspended then s
  else if (s.lane n).binding.baselineNeeded then (s.baseline n).track n
  else (s.ordinary n).track n

end Sys2Proof.Machine
end

