-- ==== Sys2Proof/Machine/Scanner.lean ====
section
/-! DEFINITION. A conversion at the lane (R33 and the rules it names) and the scanner's rounds (chapter 2). -/

namespace Sys2Proof.Machine

/-! ### Abnormal conversions and FAULT (R49 to R52) -/

/-- The lane after an abnormal conversion in MOVING, STABLE or CAPTURE (R49): a STABLE lane enters MOVING. -/
def Lane.abnormal (l : Lane) : Lane :=
  { l with
    state := if l.state = .stable then .moving else l.state
    work := { l.work with calm := 0, abnormalRun := min Config.abnormalLimit (l.work.abnormalRun + 1) } }

/-- The lane as it enters FAULT (R50). -/
def Lane.enterFault (l : Lane) (c : Condition) : Lane :=
  { l with state := .fault, work := { l.work with faultReason := c.reason, stale := true, calm := 0, recoveryRun := 0 } }

/-- A lane enters FAULT (R50, R88): a capture of it is aborted, FAULT attention is set, its FAULT source is asserted. -/
def State.faultEntry (s : State) (n : LaneId) (c : Condition) : State :=
  let t := (s.putLane n ((s.lane n).enterFault c)).abortCapture n
  (t.notify fun a => { a with fault := true }).assertSource n .fault s.device.faultClass

/-- An abnormal conversion in MOVING, STABLE or CAPTURE (R49): the third in a row puts the lane in FAULT. -/
def State.abnormalConversion (s : State) (n : LaneId) (c : Condition) : State :=
  let t := s.putLane n (s.lane n).abnormal
  if (t.lane n).work.abnormalRun < Config.abnormalLimit then t else t.faultEntry n c

/-- The lane after a NORMAL conversion in FAULT that does not recover it (R51). -/
def Lane.recovering (l : Lane) : Lane :=
  { l with work := { l.work with recoveryRun := l.work.recoveryRun + 1, abnormalRun := 0 } }

/-- The lane as it recovers at raw value `r` (R52). -/
def Lane.recovered (l : Lane) (r : Int) : Lane :=
  let k := { l with
    state := .moving
    work := { l.work with filtered := r, calm := 0, recoveryRun := 0, abnormalRun := 0, stale := false, faultReason := .none }
    committed := { l.committed with recountDue := true } }
  k.measured

/-- A lane recovers from FAULT (R52): its FAULT source clears unless drift is set. -/
def State.faultRecovery (s : State) (n : LaneId) (r : Int) : State :=
  let t := s.putLane n ((s.lane n).recovered r)
  if (s.lane n).work.drift then t else t.clearSource n .fault

/-- Does a NORMAL conversion recover this lane (R52)? -/
def recovers (l : Lane) : Bool :=
  decide (Config.recoveryLimit ≤ l.work.recoveryRun + 1)

/-- The lane after an abnormal conversion in FAULT (R51). -/
def Lane.relapsed (l : Lane) (c : Condition) : Lane :=
  { l with work := { l.work with
      recoveryRun := 0, abnormalRun := min Config.abnormalLimit (l.work.abnormalRun + 1), faultReason := c.reason } }

/-! ### A NORMAL conversion in MOVING or STABLE (R35 to R44) -/

/-- The lane after the filter, the calm test and the estimate of a NORMAL conversion in MOVING or STABLE, its state aside. -/
def Lane.followed (l : Lane) (r : Int) : Lane :=
  (l.filter r).measured

/-- Does this NORMAL conversion make a plateau of a MOVING lane: the calm count stands at S or above after the calm test (R38)? -/
def plateausAt (l : Lane) (r : Int) : Bool :=
  !restartsFilter l r && decide (l.weighing.settle ≤ (filterResult l r).2)

/-- A NORMAL conversion at a MOVING lane (R35 to R38): it may be a plateau. -/
def State.movingNormal (s : State) (n : LaneId) (r : Int) : State :=
  let l := s.lane n
  if plateausAt l r then (s.putLane n { l.followed r with state := .stable }).plateau n
  else s.putLane n (l.followed r)

/-- A NORMAL conversion at a STABLE lane (R35, R38, R39): the lane enters MOVING when the filter restarts or calm is lost. -/
def State.stableNormal (s : State) (n : LaneId) (r : Int) : State :=
  let l := s.lane n
  s.putLane n { l.followed r with state := if (filterResult l r).2 = 0 then .moving else .stable }

/-- A conversion delivered to a lane, by the lane's state and the condition (R33). A lane in CAPTURE without a running slot does
not exist (R77); the filter alone would run on it (R34). -/
def State.takeConversion (s : State) (n : LaneId) (rd : Reading) : State :=
  let c := condition rd
  match (s.lane n).state with
  | .off => s
  | .moving => if c = .normal then s.movingNormal n (rawValue rd) else s.abnormalConversion n c
  | .stable => if c = .normal then s.stableNormal n (rawValue rd) else s.abnormalConversion n c
  | .capture =>
    if c = .normal then
      match s.captureSlot n with
      | some i => match s.capture i with
        | some cap => s.captureNormal n i cap (rawValue rd)
        | none => s
      | none => s.putLane n ((s.lane n).filter (rawValue rd))
    else s.abnormalConversion n c
  | .fault =>
    if c = .normal then
      if recovers (s.lane n) then s.faultRecovery n (rawValue rd) else s.putLane n (s.lane n).recovering
    else s.putLane n ((s.lane n).relapsed c)

/-! ### The round (R26 to R32) -/

/-- The lowest-numbered lane that is not OFF. -/
def State.lowestBound (s : State) : Option LaneId :=
  (List.finRange 48).find? fun n => (s.lane n).state != .off

/-- The lowest-numbered lane above `n` that is not OFF (R27). -/
def State.nextBound (s : State) (n : LaneId) : Option LaneId :=
  (List.finRange 48).find? fun m => decide (n < m) && (s.lane m).state != .off

/-- The beginning of a round: the first conversion of the lowest-numbered lane not OFF, or IDLE (R27, R32). -/
def State.newRound (s : State) : Option ScanPosition :=
  s.lowestBound.map fun n => { lane := n, second := false }

/-- The scanner's choice after a conversion of the visit `p` has been delivered and taken (R27, R28). -/
def State.nextPosition (s : State) (p : ScanPosition) : Option ScanPosition :=
  if !p.second && ((s.lane p.lane).state == .moving || (s.lane p.lane).state == .capture) then
    some { p with second := true }
  else match s.nextBound p.lane with
    | some m => some { lane := m, second := false }
    | none => s.newRound

/-- The reading in progress ends (R22, R29): its conversion is delivered to the lane under visit, and the scanner chooses the
next conversion. An IDLE scanner takes none (R26). A lane that was unbound under visit and bound again before the reading ends gets
that conversion: DESIGN CHOICE (log entry 26). -/
def State.converted (s : State) (rd : Reading) : State :=
  match s.scan with
  | some p =>
    let t := s.takeConversion p.lane rd
    { t with scan := t.nextPosition p }
  | none => s

/-- A lane bound while the scanner is IDLE starts a round at once at that lane (R30). While it is SCANNING the visit under way
stands, also a visit of this very lane, unbound since it began: DESIGN CHOICE (log entry 26). -/
def State.wake (s : State) (n : LaneId) : State :=
  match s.scan with
  | some _ => s
  | none => { s with scan := some { lane := n, second := false } }

/-! ### Which event a conversion is -/

/-- The lane under visit, while the part runs and the scanner is SCANNING. -/
def State.underVisit (s : State) : Option LaneId :=
  if s.operating then s.scan.map ScanPosition.lane else none

/-- Is this reading the third abnormal conversion in a row of the lane under visit (R50)? -/
def State.entersFault (s : State) (rd : Reading) : Bool :=
  match s.underVisit with
  | some n =>
    condition rd != .normal && decide (Config.abnormalLimit ≤ (s.lane n).work.abnormalRun + 1) &&
      ((s.lane n).state == .moving || (s.lane n).state == .stable || (s.lane n).state == .capture)
  | none => false

/-- Does this reading recover the lane under visit (R52)? -/
def State.leavesFault (s : State) (rd : Reading) : Bool :=
  match s.underVisit with
  | some n => condition rd == .normal && (s.lane n).state == .fault && recovers (s.lane n)
  | none => false

/-- Does this reading bring the lane under visit from MOVING into STABLE (R38)? -/
def State.makesPlateau (s : State) (rd : Reading) : Bool :=
  match s.underVisit with
  | some n => condition rd == .normal && (s.lane n).state == .moving && plateausAt (s.lane n) (rawValue rd)
  | none => false

/-- Does this reading complete the capture of the lane under visit (R82)? -/
def State.completesCapture (s : State) (rd : Reading) : Bool :=
  match s.underVisit with
  | some n =>
    condition rd == .normal && (s.lane n).state == .capture &&
      match s.captureSlot n with
      | some i => match s.capture i with
        | some c => !c.restartPending && captureCalmReached ((s.lane n).filter (rawValue rd))
        | none => false
      | none => false
  | none => false

end Sys2Proof.Machine
end

