-- ==== Sys2Proof/Machine/Restart.lean ====
section
/-! DEFINITION. The settings store and restart (R196 to R198, and the restart rule of every block): the image that a save copies,
the hold in restart, and the restart sequence. -/

namespace Sys2Proof.Machine

/-! ### The image (R196) -/

/-- What the image holds for a lane: nothing for an unbound one (R196). -/
def Lane.image (l : Lane) : Option LaneImage :=
  if l.state = .off then none
  else some
    { item := l.binding.item, bay := l.binding.bay, unitMass := l.binding.unitMass, tolerance := l.binding.tolerance,
      lowMark := l.binding.lowMark, clearMark := l.binding.clearMark, lowClass := l.binding.lowClass,
      emptyClass := l.binding.emptyClass, suspended := l.binding.suspended, weighing := l.weighing,
      zero := l.calibration.zero, gain := l.calibration.gain }

/-- The stored values as they stand (R196). -/
def State.currentImage (s : State) : Image :=
  { lanes := mapTable s.lanes fun _ l => l.image
    classes := s.classes
    rules := mapTable s.rules fun _ r => r.config
    bays := mapTable s.bays fun _ b => b.settings
    patterns := s.patterns
    device := s.device }

/-- The image of factory defaults, which a bad checksum puts in force (R198): every lane unbound. -/
def Image.factory : Image :=
  { lanes := Vector.replicate 48 none, classes := ClassRecord.factory, rules := Vector.replicate 8 WatchConfig.factory,
    bays := Vector.replicate 6 BaySettings.factory, patterns := Pattern.factory, device := DeviceSettings.factory }

/-- A save copies the stored values into a new image and enters SAVING (R196). -/
def State.beginSave (s : State) : State :=
  { s with store := { s.store with copy := some s.currentImage, save := .saving } }

/-- The write of a save ends (R197): the image read back agrees with the copy or not. -/
def Store.saved (st : Store) (agrees : Bool) : Store :=
  if agrees then { st with image := st.copy, copy := none, save := .done }
  else { st with image := none, copy := none, save := .failed }

/-- A save cut off leaves the checksum bad (R197); a store that is not saving is left as it stands. -/
def Store.cutOff (st : Store) : Store :=
  if st.save = .saving then { st with image := none, copy := none, save := .idle } else st

/-! ### Restart (R198) -/

/-- A lane as it comes out of restart (R20): a bound one is MOVING, Z on Z0, baseline needed, the rest at its reset values; an
unbound one is OFF with its factory defaults. -/
def bootLane (n : LaneId) (image : Option LaneImage) : Lane :=
  match image with
  | some i =>
    { state := .moving
      binding := { item := i.item, bay := i.bay, unitMass := i.unitMass, tolerance := i.tolerance, lowMark := i.lowMark,
                   clearMark := i.clearMark, lowClass := i.lowClass, emptyClass := i.emptyClass, suspended := i.suspended,
                   baselineNeeded := true }
      weighing := i.weighing
      calibration := { zero := i.zero, working := i.zero, gain := i.gain }
      work := Working.reset
      committed := Committed.reset
      outcome := .none }
  | none => Lane.off n

/-- The restart sequence, whole (R198): the straps, the image or the factory defaults, the tick counter, the save state and the
attention reasons, and every block as its chapter lays down (R20, R32, R92, R108, R110, R148, R151, R168). The supply, the pins
and the queue of waiting commands are not the part's to reset. -/
def State.restart (s : State) : State :=
  let i := s.store.image.getD Image.factory
  let t : State :=
    { power := s.power
      link := { receiver := .hunt, unitAddress := addressOf s.power.straps, lineRate := i.device.linkRate, reply := none,
                restartPending := false }
      attention := Attention.clear
      device := i.device
      store := { image := s.store.image, copy := none, save := .idle,
                 origin := if s.store.image.isSome then .loaded else .defaulted }
      tick := 0
      scan := none
      lanes := mapTable i.lanes bootLane
      captures := Vector.replicate 4 none
      journal := []
      holds := Vector.replicate 48 none
      rules := mapTable i.rules fun _ c => { config := c, hits := 0 }
      calls := Vector.replicate 32 CallEntry.fresh
      markers := Vector.replicate 48 Markers.clear
      classes := i.classes
      bays := mapTable i.bays fun _ b => Bay.fresh b
      patterns := i.patterns
      pending := s.pending }
  { t with scan := t.newRound }

/-- The part goes into the hold (R198, R197): the lamps unlit, the excitation off, the driver disabled so that no reply goes on,
a running save cut off. ATTN is released by `State.attnLow`. The rest stands until the restart sequence writes it. -/
def State.holdInRestart (s : State) : State :=
  { s with
    link := { s.link with receiver := .hunt, reply := none, restartPending := false }
    store := s.store.cutOff
    scan := none
    bays := mapTable s.bays fun _ b => { b with lit := false } }

end Sys2Proof.Machine
end

