-- ==== Sys2Proof/Machine/Bays.lean ====
section
/-! DEFINITION. The bay controller (chapter 10): restock windows, keys, lamp selection, patterns, overrides, and the bay's tick. -/

namespace Sys2Proof.Machine

/-! ### Windows (R173, R174) -/

/-- Is this a lane on which a close of bay `b` sets carry-over: of the bay, and MOVING (R174)? -/
def Lane.marksOnClose (l : Lane) (b : BayId) : Bool :=
  l.binding.bay == b && l.state == .moving

/-- The lane with carry-over set. -/
def Lane.carried (l : Lane) : Lane :=
  { l with committed := { l.committed with carryOver := true } }

/-- A bay's window closes, with the carry-over marking (R174). -/
def State.closeBayWindow (s : State) (b : BayId) : State :=
  let t := { s with lanes := mapTable s.lanes fun _ l => if l.marksOnClose b then l.carried else l }
  t.putBay b { s.bay b with window := none }

/-- A bay's window opens or is reloaded with `ticks` remaining (R173). -/
def State.openBayWindow (s : State) (b : BayId) (ticks : Nat) : State :=
  s.putBay b { s.bay b with window := some ticks }

/-- The number of lanes on which a close of the window would newly set carry-over (R175). -/
def State.newlyCarried (s : State) (b : BayId) : Nat :=
  s.lanes.toList.countP fun l => l.marksOnClose b && !l.committed.carryOver

/-- Step 1 of a bay's tick: the window countdown (R169, R173). -/
def State.windowCountdown (s : State) (b : BayId) : State :=
  match (s.bay b).window with
  | some t => if t ≤ 1 then s.closeBayWindow b else s.openBayWindow b (t - 1)
  | none => s

/-! ### Keys (R170 to R172) -/

/-- What a key sample makes of the press. -/
inductive KeyEvent where
  | none | press | long | short | letGo
  deriving DecidableEq, Repr

/-- A down sample in DOWN or LETTING_GO: the count of the hold, and the long-press test (R170, R171). -/
def holdSample (length : Nat) (k : Key) : Key × KeyEvent :=
  if k.hold < 100 then
    if !k.longDone && decide (length ≤ k.hold + 1) then ({ state := .down, hold := k.hold + 1, longDone := true }, .long)
    else ({ state := .down, hold := k.hold + 1, longDone := k.longDone }, .none)
  else ({ k with state := .down }, .none)

/-- One sample of an enabled key (R170 to R172). `length` is the bay's long-press length. -/
def keySample (length : Nat) (k : Key) (down : Bool) : Key × KeyEvent :=
  match k.state, down with
  | .idle, false => (k, .none)
  | .idle, true => ({ k with state := .arming }, .none)
  | .arming, false => ({ k with state := .idle }, .none)
  | .arming, true => ({ state := .down, hold := 0, longDone := false }, .press)
  | .down, false => ({ k with state := .lettingGo }, .none)
  | .down, true => holdSample length k
  | .lettingGo, false => (Key.idle, if k.longDone then .letGo else .short)
  | .lettingGo, true => holdSample length k

/-- Step 2 of a bay's tick: the key sample, with the window action of a long or a short press (R169, R171, R172). A disabled key
is not sampled (R172). -/
def State.keyStep (s : State) (b : BayId) (down : Bool) : State :=
  let r := s.bay b
  if r.settings.keyEnabled then
    let (k, e) := keySample r.settings.longPress r.key down
    let t := s.putBay b { r with key := k }
    match e with
    | .none => t
    | .press => t
    | .letGo => t
    | .long => if r.window.isSome then t.closeBayWindow b else t
    | .short => t.openBayWindow b r.settings.windowLength
  else s

/-! ### Lamps (R177 to R181) -/

/-- Does a call of a lane of bay `b` satisfy `p`? -/
def State.bayHasCall (s : State) (b : BayId) (p : Call → Bool) : Bool :=
  s.calls.toList.any fun e =>
    match e.call with
    | some c => (s.lane c.lane).binding.bay == b && p c
    | none => false

/-- Is this call urgent for the lamp (R177, order 3)? -/
def State.urgentCall (s : State) (c : Call) : Bool :=
  (c.state == .raised && !(s.cls c.cls).masked && decide (c.cls ≤ s.device.urgentLimit)) ||
    (c.state == .taken && c.overdue)

/-- The display that the lamp selection chooses: the first line of R177 that applies. -/
def State.selectDisplay (s : State) (b : BayId) : Display :=
  match (s.bay b).forced with
  | some o => o.display
  | none =>
    if s.bayHasCall b fun c => c.cause == .fault then .fault
    else if s.bayHasCall b s.urgentCall then .urgent
    else if (s.bay b).window.isSome then .window
    else if s.bayHasCall b s.offerable then .call
    else if s.bayHasCall b fun c => c.state != .raised then .taken
    else .dark

/-- The pattern number of a display that is a pattern (R179). -/
def Display.pattern : Display → Option PatternId
  | .fault => some 0
  | .urgent => some 1
  | .window => some 2
  | .call => some 3
  | .taken => some 4
  | .dark => none
  | .steady => none

/-- The phase after a selection of `d` (R179): 0 on a change, one step modulo the period on the same pattern, 0 for DARK and
STEADY. -/
def State.nextPhase (s : State) (r : Bay) (d : Display) : Nat :=
  if d = r.selected then
    match d.pattern with
    | some p => (r.phase + 1) % s.patterns[p].period
    | none => 0
  else 0

/-- Is a lamp lit at a phase of a pattern (R179)? -/
def Pattern.litAt (p : Pattern) (phase : Nat) : Bool :=
  if p.startOn then decide (phase < p.onTime) else decide (p.period - p.onTime ≤ phase)

/-- The lamp output for a display and a phase (R179). -/
def State.lampFor (s : State) (d : Display) (phase : Nat) : Bool :=
  match d.pattern with
  | some p => s.patterns[p].litAt phase
  | none => d == .steady

/-- Steps 3 and 4 of a bay's tick: the lamp selection, the phase and the lamp output (R169, R177, R179). -/
def State.lampStep (s : State) (b : BayId) : State :=
  let r := s.bay b
  let d := s.selectDisplay b
  let phase := s.nextPhase r d
  s.putBay b { r with selected := d, phase := phase, lit := s.lampFor d phase }

/-- Step 5 of a bay's tick: the override countdown (R169, R181). -/
def State.overrideCountdown (s : State) (b : BayId) : State :=
  match (s.bay b).forced with
  | some o => match o.remaining with
    | some t =>
      s.putBay b { s.bay b with forced := if t ≤ 1 then none else some { o with remaining := some (t - 1) } }
    | none => s
  | none => s

/-- A bay's tick: the five steps of R169 in order. -/
def State.bayTick (keysDown : BitVec 6) (s : State) (b : BayId) : State :=
  ((((s.windowCountdown b).keyStep b (keysDown.getLsbD b)).lampStep b).overrideCountdown b)

/-- The tick at the bay controller: each bay in turn (R169). -/
def State.baysTick (s : State) (keysDown : BitVec 6) : State :=
  (List.finRange 6).foldl (State.bayTick keysDown) s

/-- The key after SET_BAY (R172, R183): a change to enabled, and every disabled key, is IDLE; an enabled key that stays enabled
goes on with its press. -/
def keyAfterSetting (k : Key) (was now : Bool) : Key :=
  if was && now then k else Key.idle

end Sys2Proof.Machine
end

