-- ==== Sys2Proof/Machine/Timers.lean ====
section
/-! DEFINITION. The tick (chapter 9): each call's running timer, what its expiry does, and the whole tick over every block. -/

namespace Sys2Proof.Machine

/-- What a tick makes of a call's timer. -/
inductive TimerEvent where
  | none | renotify | overdue
  deriving DecidableEq, Repr

/-- The class and the nag count after a renotify expiry (R155 steps 1 and 3, R156). -/
def escalated (r : ClassRecord) (c : ClassId) (nag : Nat) : ClassId × Nat :=
  if r.escalateAfter > 0 ∧ r.escalateAfter ≤ min 15 (nag + 1) then (⟨c.val - 1, by have := c.isLt; omega⟩, 0)
  else (c, min 15 (nag + 1))

/-- The call after a renotify expiry (R155, R156). -/
def State.renotified (s : State) (c : Call) : Call :=
  let e := escalated (s.cls c.cls) c.cls c.nag
  { c with cls := e.1, nag := e.2, aging := agingLoad (s.cls e.1) }

/-- The call after a service expiry (R158). -/
def Call.expired (c : Call) : Call :=
  { c with overdue := true, service := some 0 }

/-- The tick at one call (R153): its running timer decreases by 1, and a timer that reaches 0 expires. -/
def State.callTick (s : State) (c : Call) : Call × TimerEvent :=
  match c.state with
  | .raised => match c.aging with
    | some t =>
      if (s.cls c.cls).masked then (c, .none)
      else if t ≤ 1 then (s.renotified c, .renotify)
      else ({ c with aging := some (t - 1) }, .none)
    | none => (c, .none)
  | .taken => match c.service with
    | some 0 => (c, .none)
    | some (t + 1) => if t = 0 then (c.expired, .overdue) else ({ c with service := some t }, .none)
    | none => (c, .none)
  | .satisfied => (c, .none)

/-- The event that a tick makes of the call of an entry, if it holds one. -/
def State.timerEvent (s : State) (e : CallEntry) : TimerEvent :=
  match e.call with
  | some c => (s.callTick c).2
  | none => .none

/-- The tick at the call controller (R153): every call's timer, and the attention reasons that the expiries set (R155, R158). -/
def State.callsTick (s : State) : State :=
  { s with
    calls := mapTable s.calls fun _ e =>
      match e.call with
      | some c => { e with call := some (s.callTick c).1 }
      | none => e
    attention := { s.attention with
      renotify := s.attention.renotify || s.calls.toList.any fun e => s.timerEvent e == .renotify
      overdue := s.attention.overdue || s.calls.toList.any fun e => s.timerEvent e == .overdue } }

/-- The whole tick (R152, R153): the tick counter, the capture unit, the call controller and the bay controller. The order of
the bays' delivery against the other two is the outside world's (log entry 5). -/
def State.ticked (s : State) (t : TickInput) : State :=
  let a := { s with tick := s.tick + 1 }
  let b := if t.baysBeforeCaptures then a else a.capturesTick
  let c := if t.baysBeforeCalls then b else b.callsTick
  let d := c.baysTick t.keysDown
  let e := if t.baysBeforeCaptures then d.capturesTick else d
  if t.baysBeforeCalls then e.callsTick else e

/-! ### Which events a tick brings -/

/-- Does the capture of this slot time out at the next tick (R86)? -/
def State.captureDue (s : State) (i : CaptureId) : Bool :=
  match s.capture i with
  | some c => decide (c.remaining ≤ 1)
  | none => false

/-- The event that the next tick makes of the call of a slot (R153). -/
def State.callDue (s : State) (i : SlotId) : TimerEvent :=
  s.timerEvent (s.entry i)

/-- Does a bay's window expire at the next tick (R173)? -/
def State.windowDue (s : State) (b : BayId) : Bool :=
  match (s.bay b).window with
  | some t => decide (t ≤ 1)
  | none => false

/-- Does a bay's timed override run out at the next tick (R181)? -/
def State.overrideDue (s : State) (b : BayId) : Bool :=
  match (s.bay b).forced with
  | some o => match o.remaining with
    | some t => decide (t ≤ 1)
    | none => false
  | none => false

/-- What the sample of a bay's key at this tick makes of its press (R170 to R172). -/
def State.keyEvent (s : State) (b : BayId) (t : TickInput) : KeyEvent :=
  if (s.bay b).settings.keyEnabled then
    (keySample (s.bay b).settings.longPress (s.bay b).key (t.keysDown.getLsbD b)).2
  else .none

end Sys2Proof.Machine
end

