-- ==== Sys2Proof/Machine/ExecLink.lean ====
section
/-! DEFINITION. The meanings of the power, pin and line events, of the device requests and of the settings store's events
(chapter 11). -/

namespace Sys2Proof.Machine

/-- The outcome of every meaning. -/
abbrev Out := Host.Outcome State Fault Refusal

/-! ### Power and RESET_N (R198) -/

/-- POWER_ON: the supply rises. The restart sequence runs unless RESET_N holds the part (R198). -/
def execPowerOn (straps : BitVec 5) (s : State) : Out :=
  if s.power.supplyUp then .next s
  else
    let t := { s with power := { s.power with supplyUp := true, straps := straps } }
    .next (if s.power.resetLow then t else t.restart)

/-- RESET_N_LOW: the part is held in restart, and a running save is cut off (R197, R198). -/
def execResetNLow (s : State) : Out :=
  if s.power.resetLow then .next s
  else .next { s.holdInRestart with power := { s.power with resetLow := true } }

/-- RESET_N_RELEASE: the restart sequence runs if the supply is up (R198). -/
def execResetNRelease (straps : BitVec 5) (s : State) : Out :=
  if s.power.resetLow then
    let t := { s with power := { s.power with resetLow := false, straps := straps } }
    .next (if s.power.supplyUp then t.restart else t)
  else .next s

/-- POWER_LOSS: the supply falls; the part is held in restart, and a running save is cut off (R197, R198). -/
def execPowerLoss (s : State) : Out :=
  if s.power.supplyUp then .next { s.holdInRestart with power := { s.power with supplyUp := false } }
  else .next s

/-! ### The line (R186, R187, R189) -/

/-- LINE_IDLE: 2 ms without a character (R186): HUNT goes to READY, READY stays, a frame in RECEIVING is abandoned. -/
def execLineIdle (s : State) : Out :=
  if s.operating && s.link.receiver != .replying then .next (s.setReceiver .ready) else .next s

/-- FRAME_ABANDONED: characters of one frame and a gap of more than 2 ms (R186): no reply, and the receiver is in READY. The
characters open no frame in HUNT, and the gap still makes the line idle; in REPLYING they are lost. Characters that are no
unfinished frame are not this event. -/
def execFrameAbandoned (chars : List Byte) (s : State) : Out :=
  if s.operating && unfinishedFrame chars && s.link.receiver != .replying then .next (s.setReceiver .ready) else .next s

/-- FRAME_DISCARDED: a frame that R187 discards: no reply, no effect, and the receiver is in HUNT. In HUNT and REPLYING the
characters open no frame. Characters that the judgement does not discard are not this event. -/
def execFrameDiscarded (chars : List Byte) (s : State) : Out :=
  if s.operating && s.link.receiver == .ready && judgeFrame s.link.unitAddress chars == .discarded then
    .next (s.setReceiver .hunt)
  else .next s

/-- UNKNOWN_KIND_REQUEST: answered UNKNOWN_KIND, and ignored when broadcast (R189, R190). A kind of 128 or above is no request and
is discarded (R187); a kind of the request table is another row's. -/
def execUnknownKindRequest (h : Header) (kind : Byte) (p : List Byte) (s : State) : Out :=
  if unknownKind kind then .next (serve kind.toNat false h p (fun t => t.refuse .unknownKind) s)
  else if kind.toNat ≥ 128 && s.operating && s.link.receiver == .ready then .next (s.setReceiver .hunt)
  else .next s

/-- REPLY_COMPLETE: the driver is released, the receiver goes to HUNT, a new link rate takes effect (R186, R193), and a pending
RESTART begins (R198). -/
def execReplyComplete (s : State) : Out :=
  if s.operating && s.link.receiver == .replying then
    if s.link.restartPending then .next s.restart
    else .next { s with link := { s.link with receiver := .hunt, reply := none, lineRate := s.device.linkRate } }
  else .next s

/-! ### Device requests -/

/-- IDENTIFY (R192). -/
def identify (p : List Byte) (s : State) : Served :=
  match p with
  | [] => s.accept (w16 Config.partNumber ++ [w8 Config.layoutRevision, s.link.unitAddress, w8 s.store.origin.code] ++
      deviceBytes s.device)
  | _ => s.refuse .badLength

def execIdentify (h : Header) (p : List Byte) (s : State) : Out :=
  .next (serve 1 true h p (identify p) s)

/-- The payload of the status reply, 14 bytes (R195, R199). -/
def State.statusReply (s : State) : List Byte :=
  [attentionByte s.attention, w8 (s.countCalls fun c => c.state == .raised), w8 (s.countCalls fun c => c.state == .taken),
    w8 (s.countCalls fun c => c.state == .satisfied), w8 s.unplaced, w8 s.journal.length, w8 s.heldCount,
    w8 s.runningCaptures, w8 s.store.origin.code, w8 s.store.save.code] ++ w32 s.tick

/-- GET_STATUS: the report, and every reason it reports cleared (R195). -/
def getStatus (p : List Byte) (s : State) : Served :=
  match p with
  | [] => { s with attention := Attention.clear }.accept s.statusReply
  | _ => s.refuse .badLength

/-- GET_STATUS. Broadcast, it changes nothing (R190). -/
def execGetStatus (h : Header) (p : List Byte) (s : State) : Out :=
  .next (serve 2 true h p (getStatus p) s)

/-- RESTART (R198): accepted outside a save. Addressed, the restart waits for the end of the reply; broadcast, no reply is sent
and it begins at once (R190). -/
def restartRequest (broadcast : Bool) (p : List Byte) (s : State) : Served :=
  match p with
  | [] => unlessSaving s <|
      (if broadcast then s.restart else { s with link := { s.link with restartPending := true } }).accept []
  | _ => s.refuse .badLength

def execRestart (h : Header) (p : List Byte) (s : State) : Out :=
  .next (serve 3 false h p (restartRequest (s.addressed h == .broadcast) p) s)

/-- The settings that a SET_DEVICE payload carries, clamped (R193, R90, R101); none when a value is refused (R193). -/
def deviceFields (rateHi rateLo fault urgent toHi toLo mark link : Byte) : Option DeviceSettings := do
  let rate ← conversionRateOf (u16 rateHi rateLo)
  let f ← index 8 fault
  let u ← index 8 urgent
  let l ← named LinkRate.all link
  pure { conversionRate := rate, faultClass := f, urgentLimit := u, captureTimeout := clamp 50 3000 (u16 toHi toLo),
         watermark := clamp 1 128 mark.toNat, linkRate := l }

/-- The six settings taken together (R193): a changed fault class is offered to every FAULT call (R123); on a broadcast the link
rate changes when the request is taken (R190), otherwise after the reply. -/
def State.takeDevice (s : State) (broadcast : Bool) (d : DeviceSettings) : State :=
  let offered := if d.faultClass = s.device.faultClass then s else s.offerFaultClass d.faultClass
  let t := { offered with device := d }
  if broadcast then { t with link := { t.link with lineRate := d.linkRate } } else t

/-- SET_DEVICE (R193). -/
def setDevice (broadcast : Bool) (p : List Byte) (s : State) : Served :=
  match p with
  | [r1, r0, f, u, t1, t0, m, l] => unlessSaving s <|
      match deviceFields r1 r0 f u t1 t0 m l with
      | some d => (s.takeDevice broadcast d).accept (deviceBytes d)
      | none => s.refuse .badValue
  | _ => s.refuse .badLength

def execSetDevice (h : Header) (p : List Byte) (s : State) : Out :=
  .next (serve 4 false h p (setDevice (s.addressed h == .broadcast) p) s)

/-! ### The settings store (R196, R197) -/

/-- SAVE_SETTINGS (R196). -/
def saveSettings (p : List Byte) (s : State) : Served :=
  match p with
  | [] => unlessSaving s (s.beginSave.accept [])
  | _ => s.refuse .badLength

def execSaveSettings (h : Header) (p : List Byte) (s : State) : Out :=
  .next (serve 5 false h p (saveSettings p) s)

/-- SAVE_COMPLETE: the read-back decides DONE or FAILED, and SAVE_DONE is set (R197). No save running, there is no end of one. -/
def execSaveComplete (agrees : Bool) (s : State) : Out :=
  if s.operating && s.saving then
    .next ({ s with store := s.store.saved agrees }.notify fun a => { a with saveDone := true })
  else .next s

end Sys2Proof.Machine
end

