-- ==== Sys2Proof/Machine/ExecBay.lean ====
section
/-! DEFINITION. The meanings of the bay requests (chapter 10). -/

namespace Sys2Proof.Machine

/-- The bay that a bay field names; a bay above 5 is refused with BAD_VALUE (R182). -/
def withBay (s : State) (b : Byte) (k : BayId → Served) : Served :=
  match index 6 b with
  | some i => k i
  | none => s.refuse .badValue

/-- The bay with new settings (R183): a change of key enabled leaves the key IDLE (R172). -/
def Bay.withSettings (r : Bay) (set : BaySettings) : Bay :=
  { r with settings := set, key := keyAfterSetting r.key r.settings.keyEnabled set.keyEnabled }

/-- SET_BAY (R182, R183). -/
def setBay (p : List Byte) (s : State) : Served :=
  match p with
  | [b, en, w1, w0, l1, l0] => unlessSaving s <| withBay s b fun i =>
      match yesNo en with
      | some enabled =>
        let set : BaySettings := { keyEnabled := enabled, windowLength := clamp 10 36000 (u16 w1 w0),
                                   longPress := clamp 5 100 (u16 l1 l0) }
        (s.putBay i ((s.bay i).withSettings set)).accept (w8 i :: baySettingsBytes set)
      | none => s.refuse .badValue
  | _ => s.refuse .badLength

def execSetBay (h : Header) (p : List Byte) (s : State) : Out :=
  .next (serve 80 false h p (setBay p) s)

/-- GET_BAY (R184). -/
def getBay (p : List Byte) (s : State) : Served :=
  match p with
  | [b] => withBay s b fun i => s.accept (bayReport i (s.bay i) s.patterns)
  | _ => s.refuse .badLength

def execGetBay (h : Header) (p : List Byte) (s : State) : Out :=
  .next (serve 81 true h p (getBay p) s)

/-- The effect and the reply of OPEN_WINDOW for `ticks` (R175): opened 0 or reloaded 1, and the ticks remaining. -/
def State.openRequest (s : State) (i : BayId) (ticks : Nat) : Served :=
  (s.openBayWindow i ticks).accept (w8 i :: flag (s.bay i).window.isSome :: w16 ticks)

/-- OPEN_WINDOW, with or without a length (R173, R175, R182). -/
def openWindow (p : List Byte) (s : State) : Served :=
  match p with
  | [b] => withBay s b fun i => s.openRequest i (s.bay i).settings.windowLength
  | [b, l1, l0] => withBay s b fun i => s.openRequest i (clamp 10 36000 (u16 l1 l0))
  | _ => s.refuse .badLength

def execOpenWindow (h : Header) (p : List Byte) (s : State) : Out :=
  .next (serve 82 false h p (openWindow p) s)

/-- CLOSE_WINDOW (R174, R175, R182). The number of lanes is sent in 1 byte: DEDUCED (log entry 28). -/
def closeWindow (p : List Byte) (s : State) : Served :=
  match p with
  | [b] => withBay s b fun i =>
      if (s.bay i).window.isSome then (s.closeBayWindow i).accept [w8 i, flag true, w8 (s.newlyCarried i)]
      else s.accept [w8 i, flag false, w8 0]
  | _ => s.refuse .badLength

def execCloseWindow (h : Header) (p : List Byte) (s : State) : Out :=
  .next (serve 83 false h p (closeWindow p) s)

/-- The override that a display and a duration set: until cleared for a duration of 0 (R181). -/
def overrideOf (d : Display) (duration : Nat) : LampOverride :=
  { display := d, remaining := if duration = 0 then none else some (min 6000 duration) }

/-- SET_LAMP (R181, R182). The code after the last display is NONE. -/
def setLamp (p : List Byte) (s : State) : Served :=
  match p with
  | [b, d, t1, t0] => withBay s b fun i =>
      if d.toNat = displayNone then
        (s.putBay i { s.bay i with forced := none }).accept (w8 i :: d :: w16 0)
      else match named Display.all d with
        | some disp => (s.putBay i { s.bay i with forced := some (overrideOf disp (u16 t1 t0)) }).accept
            (w8 i :: d :: w16 (min 6000 (u16 t1 t0)))
        | none => s.refuse .badValue
  | _ => s.refuse .badLength

def execSetLamp (h : Header) (p : List Byte) (s : State) : Out :=
  .next (serve 84 false h p (setLamp p) s)

/-- The fields of SET_PATTERN, clamped: the period, then the on time up to the period as taken (R180). -/
def patternFields (period onTime : Nat) (startOn : Bool) : Pattern :=
  { period := clamp 1 100 period, onTime := min (clamp 1 100 period) onTime, startOn := startOn }

/-- SET_PATTERN (R180, R182). -/
def setPattern (p : List Byte) (s : State) : Served :=
  match p with
  | [b, period, onTime, start] => unlessSaving s <|
      match index 5 b, yesNo start with
      | some i, some startOn =>
        let e := patternFields period.toNat onTime.toNat startOn
        { s with patterns := s.patterns.set i.val e i.isLt }.accept (w8 i :: patternBytes e)
      | _, _ => s.refuse .badValue
  | _ => s.refuse .badLength

def execSetPattern (h : Header) (p : List Byte) (s : State) : Out :=
  .next (serve 85 false h p (setPattern p) s)

end Sys2Proof.Machine
end

