-- ==== Sys2Proof/Machine/ExecCall.lean ====
section
/-! DEFINITION. The meanings of the call requests (chapter 8) and of the class requests (chapter 9). -/

namespace Sys2Proof.Machine

/-! ### Calls (R136 to R142, R146) -/

/-- NEXT_CALL: the number of RAISED calls in unmasked classes, the offer flag, and the offer's record (R137). -/
def nextCall (p : List Byte) (s : State) : Served :=
  match p with
  | [] => s.accept (w8 (s.countCalls s.offerable) ::
      match s.offer with
      | some (i, c) => flag true :: s.recordOf i c
      | none => [flag false])
  | _ => s.refuse .badLength

def execNextCall (h : Header) (p : List Byte) (s : State) : Out :=
  .next (serve 64 true h p (nextCall p) s)

/-- LIST_CALLS: up to 8 records from the starting slot on (R138). -/
def listCalls (p : List Byte) (s : State) : Served :=
  match p with
  | [b] => match index 32 b with
    | some i =>
      let records := (s.recordsFrom i).take Config.listCallsMax
      s.accept (w8 records.length :: records.flatten)
    | none => s.refuse .badValue
  | _ => s.refuse .badLength

def execListCalls (h : Header) (p : List Byte) (s : State) : Out :=
  .next (serve 65 true h p (listCalls p) s)

/-- The live call that an id names: slot and generation (R124); `k` goes on with it, and STALE_CALL answers any other id (R139). -/
def withCall (s : State) (slot generation : Byte) (k : SlotId → Call → Served) : Served :=
  match index 32 slot with
  | some i => match s.callAt i with
    | some c => if (s.entry i).generation = generation then k i c else s.refuse .staleCall
    | none => s.refuse .staleCall
  | none => s.refuse .badValue

/-- TAKE_CALL (R139, R140). -/
def takeCall (p : List Byte) (s : State) : Served :=
  match p with
  | [slot, generation] => withCall s slot generation fun i c =>
      require s (c.state == .raised) .wrongState <|
        let t := s.putCall i (s.takenCall c)
        t.accept (t.recordOf i (s.takenCall c))
  | _ => s.refuse .badLength

def execTakeCall (h : Header) (p : List Byte) (s : State) : Out :=
  .next (serve 66 false h p (takeCall p) s)

/-- CLOSE_CALL on a call that is not RAISED (R141, R142): returned to RAISED with NEW_CALL under R133, or freed with placement. The
reply carries the outcome, freed 0 or returned 1, and a returned call's record. -/
def State.close (s : State) (i : SlotId) (c : Call) : Served :=
  if s.returns c then
    let t := (s.putCall i (s.returnedCall c)).noteNewCall c.cls
    t.accept (w8 1 :: t.recordOf i (s.returnedCall c))
  else ((s.freeEntry i).place).accept [w8 0]

/-- CLOSE_CALL (R139, R141, R142). -/
def closeCall (p : List Byte) (s : State) : Served :=
  match p with
  | [slot, generation] => withCall s slot generation fun i c =>
      require s (c.state != .raised) .wrongState <| s.close i c
  | _ => s.refuse .badLength

def execCloseCall (h : Header) (p : List Byte) (s : State) : Out :=
  .next (serve 67 false h p (closeCall p) s)

/-- CLEAR_CALLS, with the numbers of calls freed and of markers cleared (R146). -/
def clearCallsRequest (p : List Byte) (s : State) : Served :=
  match p with
  | [] => s.clearCalls.accept [w8 (s.countCalls fun _ => true), w8 s.unplaced]
  | _ => s.refuse .badLength

def execClearCalls (h : Header) (p : List Byte) (s : State) : Out :=
  .next (serve 68 false h p (clearCallsRequest p) s)

/-! ### Classes (R160 to R164) -/

/-- Is this a RAISED call of the class? -/
def Call.raisedIn (c : Call) (k : ClassId) : Bool :=
  c.state == .raised && c.cls == k

/-- The record written (R163 step 1), and the unmasking's NEW_CALL if the class holds a RAISED call (R161). A masking, and the
running again of frozen timers, follow from the mask itself (R154, R160). -/
def State.writeClass (s : State) (k : ClassId) (r : ClassRecord) : State :=
  let t := { s with classes := s.classes.set k.val r k.isLt }
  if (s.cls k).masked && !r.masked && decide (0 < s.countCalls fun c => c.raisedIn k) then
    t.notify fun a => { a with newCall := true }
  else t

/-- Apply now: every RAISED call of the class loads its aging timer from the record (R162). -/
def State.reloadClass (s : State) (k : ClassId) : State :=
  { s with calls := mapTable s.calls fun _ e =>
      match e.call with
      | some c => if c.raisedIn k then { e with call := some { c with aging := agingLoad (s.cls k) } } else e
      | none => e }

/-- SET_CLASS (R162, R163). -/
def setClass (p : List Byte) (s : State) : Served :=
  match p with
  | [b, mask, r1, r0, esc, l1, l0, now] => unlessSaving s <|
      match index 8 b, yesNo mask, yesNo now with
      | some k, some masked, some applyNow =>
        let r : ClassRecord := { masked := masked, renotify := u16 r1 r0, escalateAfter := min 15 esc.toNat,
                                 serviceLimit := u16 l1 l0 }
        let t := s.writeClass k r
        (if applyNow then t.reloadClass k else t).accept
          (w8 k :: classBytes r ++ [w8 (if applyNow then s.countCalls fun c => c.raisedIn k else 0)])
      | _, _, _ => s.refuse .badValue
  | _ => s.refuse .badLength

def execSetClass (h : Header) (p : List Byte) (s : State) : Out :=
  .next (serve 72 false h p (setClass p) s)

/-- GET_CLASS: the record and the calls it governs (R164). -/
def getClass (p : List Byte) (s : State) : Served :=
  match p with
  | [b] => match index 8 b with
    | some k => s.accept (w8 k :: classBytes (s.cls k) ++
        [w8 (s.countCalls fun c => c.raisedIn k),
          w8 (s.countCalls fun c => c.cls == k && c.state == .taken),
          w8 (s.countCalls fun c => c.cls == k && c.state == .taken && c.overdue),
          w8 (s.countCalls fun c => c.cls == k && c.state == .satisfied),
          w8 (s.countCalls fun c => c.raisedIn k && c.aging.isNone)])
    | none => s.refuse .badValue
  | _ => s.refuse .badLength

def execGetClass (h : Header) (p : List Byte) (s : State) : Out :=
  .next (serve 73 true h p (getClass p) s)

end Sys2Proof.Machine
end

