-- ==== Sys2Proof/Machine/ExecJournal.lean ====
section
/-! DEFINITION. The meanings of the journal requests (chapter 6) and of the watch requests (chapter 7). -/

namespace Sys2Proof.Machine

/-! ### Journal (R103 to R106) -/

/-- READ_MOVES: at most 8 records from the head, none removed (R104). -/
def readMoves (p : List Byte) (s : State) : Served :=
  match p with
  | [b] =>
    let records := s.journal.take (min b.toNat Config.readMovesMax)
    s.accept (w8 records.length :: w8 s.journal.length :: records.flatMap movementRecord)
  | _ => s.refuse .badLength

def execReadMoves (h : Header) (p : List Byte) (s : State) : Out :=
  .next (serve 48 true h p (readMoves p) s)

/-- REMOVE_MOVES: the removal and its drain, then the report (R105). -/
def removeMoves (p : List Byte) (s : State) : Served :=
  match p with
  | [b] =>
    let t := s.removeHead b.toNat
    t.accept [w8 (min b.toNat s.journal.length), w8 t.journal.length, w8 t.heldCount]
  | _ => s.refuse .badLength

def execRemoveMoves (h : Header) (p : List Byte) (s : State) : Out :=
  .next (serve 49 false h p (removeMoves p) s)

/-- CLEAR_JOURNAL, with the numbers of records discarded (R106). -/
def clearJournal (p : List Byte) (s : State) : Served :=
  match p with
  | [] => s.clearJournal.accept [w8 s.journal.length, w8 s.heldCount]
  | _ => s.refuse .badLength

def execClearJournal (h : Header) (p : List Byte) (s : State) : Out :=
  .next (serve 50 false h p (clearJournal p) s)

/-! ### Watch rules (R116 to R119) -/

/-- A magnitude bound, from 0 to 8,000,000 (R116); none outside it. -/
def magnitudeField (x : Int) : Option Nat :=
  if 0 ≤ x ∧ x ≤ 8000000 then some x.toNat else none

/-- The configuration that a SET_WATCH payload carries; none when a value is refused (R116). Under EQUAL lane high is taken equal
to lane low; the kind set keeps its four bits and is never refused (R116, R191). -/
def watchFields (en mode lo hi kinds measure mmode : Byte) (mlo mhi : Int) (action cls one : Byte) :
    Option WatchConfig := do
  let enabled ← yesNo en
  let laneMode ← named LaneMode.all mode
  let laneLow ← index 48 lo
  let laneHigh ← index 48 hi
  let meas ← named Measure.all measure
  let mm ← named MagnitudeMode.all mmode
  let low ← magnitudeField mlo
  let high ← magnitudeField mhi
  let act ← named WatchAction.all action
  let c ← index 8 cls
  let oneShot ← yesNo one
  if (laneMode = .equal ∨ laneLow ≤ laneHigh) ∧ low ≤ high then
    pure { enabled := enabled, laneMode := laneMode, laneLow := laneLow,
           laneHigh := if laneMode = .equal then laneLow else laneHigh, kinds := kinds.setWidth 4, measure := meas,
           magnitudeMode := mm, magnitudeLow := low, magnitudeHigh := high, action := act, cls := c, oneShot := oneShot }
  else none

/-- The effect of SET_WATCH: the configuration written, the hit counter 0 (R117). -/
def State.writeRule (s : State) (w : RuleId) (c : WatchConfig) : State :=
  { s with rules := s.rules.set w.val { config := c, hits := 0 } w.isLt }

/-- SET_WATCH (R116, R117). -/
def setWatch (p : List Byte) (s : State) : Served :=
  match p with
  | [b, en, mode, lo, hi, kinds, measure, mmode, a3, a2, a1, a0, b3, b2, b1, b0, action, cls, one] =>
    unlessSaving s <|
      match index 8 b, watchFields en mode lo hi kinds measure mmode (s32 a3 a2 a1 a0) (s32 b3 b2 b1 b0) action cls one with
      | some w, some c => (s.writeRule w c).accept (w8 w :: watchReport { config := c, hits := 0 })
      | _, _ => s.refuse .badValue
  | _ => s.refuse .badLength

def execSetWatch (h : Header) (p : List Byte) (s : State) : Out :=
  .next (serve 56 false h p (setWatch p) s)

/-- GET_WATCH (R118). -/
def getWatch (p : List Byte) (s : State) : Served :=
  match p with
  | [b] => match index 8 b with
    | some w => s.accept (w8 w :: watchReport (s.rule w))
    | none => s.refuse .badValue
  | _ => s.refuse .badLength

def execGetWatch (h : Header) (p : List Byte) (s : State) : Out :=
  .next (serve 57 true h p (getWatch p) s)

/-- Every hit counter 0 (R119). -/
def State.clearHits (s : State) : State :=
  { s with rules := mapTable s.rules fun _ r => { r with hits := 0 } }

/-- CLEAR_WATCH_HITS, with the counters as they stood (R119). -/
def clearWatchHits (p : List Byte) (s : State) : Served :=
  match p with
  | [] => s.clearHits.accept (s.rules.toList.flatMap fun r => w16 r.hits)
  | _ => s.refuse .badLength

def execClearWatchHits (h : Header) (p : List Byte) (s : State) : Out :=
  .next (serve 58 false h p (clearWatchHits p) s)

end Sys2Proof.Machine
end

