-- ==== Sys2Proof/Machine/ExecLane.lean ====
section
/-! DEFINITION. The meanings of the lane requests (chapter 1) and of the calibration requests (chapter 5). Each follows its table of
checks in order: the first that fails gives the status, and the request then changes nothing. -/

namespace Sys2Proof.Machine

/-! ### Reports -/

/-- LANE_SUMMARY: the 48 lane status records (R19). -/
def laneSummary (p : List Byte) (s : State) : Served :=
  match p with
  | [] => s.accept (s.lanes.toList.flatMap laneStatusRecord)
  | _ => s.refuse .badLength

def execLaneSummary (h : Header) (p : List Byte) (s : State) : Out :=
  .next (serve 16 true h p (laneSummary p) s)

/-- GET_LANE (R18). -/
def getLane (p : List Byte) (s : State) : Served :=
  match p with
  | [b] => withLane s b fun n => s.accept (laneReport (s.lane n) (s.held n).isSome)
  | _ => s.refuse .badLength

def execGetLane (h : Header) (p : List Byte) (s : State) : Out :=
  .next (serve 17 true h p (getLane p) s)

/-! ### BIND_LANE (R9 to R11) -/

/-- The values of a BIND_LANE request after its checks. -/
structure BindFields where
  item       : BitVec 32
  unitMass   : Nat
  tolerance  : Nat
  lowMark    : Nat
  clearMark  : Nat
  lowClass   : ClassId
  emptyClass : ClassId
  bay        : BayId
  deriving DecidableEq, Repr

/-- The values taken from the fields, the tolerance clamped; none when a value is refused (R9). -/
def bindFields (item : BitVec 32) (u tol low clear : Nat) (lowCls emptyCls bay : Byte) : Option BindFields := do
  let lc ← index 8 lowCls
  let ec ← index 8 emptyCls
  let b ← index 6 bay
  if 1 ≤ u ∧ u ≤ 60000 ∧ low < clear ∧ clear ≤ 10000 then
    pure { item := item, unitMass := u, tolerance := clamp 10 450 tol, lowMark := low, clearMark := clear, lowClass := lc,
           emptyClass := ec, bay := b }
  else none

/-- The binding with the request's values written; suspended is kept (R11). -/
def Binding.rebound (b : Binding) (f : BindFields) : Binding :=
  { b with
    item := f.item, unitMass := f.unitMass, tolerance := f.tolerance, lowMark := f.lowMark, clearMark := f.clearMark,
    lowClass := f.lowClass, emptyClass := f.emptyClass, bay := f.bay
    baselineNeeded := b.baselineNeeded || decide (b.unitMass ≠ f.unitMass) }

/-- The level after a change of marks (R69): computed against the committed count; NONE stays NONE. -/
def Lane.relevel (l : Lane) (f : BindFields) : Level :=
  if l.committed.level = .none then .none
  else if l.binding.lowMark = f.lowMark ∧ l.binding.clearMark = f.clearMark then l.committed.level
  else levelOf l.committed.count f.lowMark f.clearMark l.committed.level

/-- A bound lane with its binding rewritten in place (R11). -/
def Lane.rebound (l : Lane) (f : BindFields) : Lane :=
  { l with binding := l.binding.rebound f, committed := { l.committed with level := l.relevel f } }

/-- A changed class is offered to the lane's RESTOCK call when it is the class that the lane's level now carries (R11, R128). -/
def State.offerChangedClass (s : State) (n : LaneId) (before : Binding) : State :=
  let l := s.lane n
  match l.committed.level with
  | .low => if before.lowClass = l.binding.lowClass then s else s.offerClass n .restock l.binding.lowClass
  | .empty => if before.emptyClass = l.binding.emptyClass then s else s.offerClass n .restock l.binding.emptyClass
  | _ => s

/-- BIND_LANE on a bound lane (R11, R69): the level is re-evaluated first, then the classes go to the call controller. -/
def State.rebind (s : State) (n : LaneId) (f : BindFields) : State :=
  let l := s.lane n
  let l' := l.rebound f
  ((s.putLane n l').handLevel n l.committed.level l'.committed.level).offerChangedClass n l.binding

/-- A lane bound from OFF (R10): fresh values, MOVING. -/
def boundLane (n : LaneId) (f : BindFields) : Lane :=
  { Lane.off n with
    state := .moving
    binding := { item := f.item, bay := f.bay, unitMass := f.unitMass, tolerance := f.tolerance, lowMark := f.lowMark,
                 clearMark := f.clearMark, lowClass := f.lowClass, emptyClass := f.emptyClass, suspended := false,
                 baselineNeeded := true } }

/-- BIND_LANE on an OFF lane (R10), and the scanner's part (R30; of the lane under visit, log entry 26). -/
def State.bindFresh (s : State) (n : LaneId) (f : BindFields) : State :=
  (s.putLane n (boundLane n f)).wake n

/-- The echo of BIND_LANE: the lane and each field as taken (R9). -/
def bindEcho (n : LaneId) (f : BindFields) : List Byte :=
  [w8 n] ++ w32 f.item ++ w16 f.unitMass ++ w16 f.tolerance ++ w16 f.lowMark ++ w16 f.clearMark ++
    [w8 f.lowClass, w8 f.emptyClass, w8 f.bay]

/-- An accepted BIND_LANE: its effect, the echo, and the lane's state after the request (R9). -/
def State.bind (s : State) (n : LaneId) (f : BindFields) : Served :=
  let t := if (s.lane n).state = .off then s.bindFresh n f else s.rebind n f
  t.accept (bindEcho n f ++ [w8 (t.lane n).state.code])

/-- BIND_LANE (R8 to R11). -/
def bindLane (p : List Byte) (s : State) : Served :=
  match p with
  | [b, i3, i2, i1, i0, u1, u0, t1, t0, l1, l0, c1, c0, lc, ec, bay] =>
    unlessSaving s <| withLane s b fun n => unlessCapture s n <|
      match bindFields (u32 i3 i2 i1 i0) (u16 u1 u0) (u16 t1 t0) (u16 l1 l0) (u16 c1 c0) lc ec bay with
      | some f => s.bind n f
      | none => s.refuse .badValue
  | _ => s.refuse .badLength

def execBindLane (h : Header) (p : List Byte) (s : State) : Out :=
  .next (serve 18 false h p (bindLane p) s)

/-! ### UNBIND_LANE, SET_LANE_WEIGHING, SUSPEND_LANE, RESUME_LANE -/

/-- The effect of UNBIND_LANE in the order of R12. -/
def State.unbind (s : State) (n : LaneId) : State :=
  (s.unbindCalls n).putLane n (Lane.off n)

/-- UNBIND_LANE (R8, R12). -/
def unbindLane (p : List Byte) (s : State) : Served :=
  match p with
  | [b] => unlessSaving s <| withLane s b fun n => unlessOff s n <| unlessCapture s n <|
      require s (s.held n).isNone .laneBusy <| (s.unbind n).accept [w8 n]
  | _ => s.refuse .badLength

def execUnbindLane (h : Header) (p : List Byte) (s : State) : Out :=
  .next (serve 19 false h p (unbindLane p) s)

/-- The six settings, each clamped into its range (R13). -/
def weighingFields (k : Byte) (jump band : Int) (settle step : Byte) (limit : Nat) : Weighing :=
  { shift := clamp 0 6 k.toNat, jump := clampSigned 1 8388607 jump, band := clampSigned 1 1000000 band,
    settle := clamp 2 32 settle.toNat, trackStep := step.toNat, trackLimit := limit }

/-- The lane with new weighing settings; Z is clamped at once into Z0 ± the new limit (R13, R14). -/
def Lane.reweighed (l : Lane) (w : Weighing) : Lane :=
  { l with
    weighing := w
    calibration := { l.calibration with working := clampZero l.calibration.zero l.calibration.working w.trackLimit } }

/-- SET_LANE_WEIGHING (R8, R13 to R15). -/
def setLaneWeighing (p : List Byte) (s : State) : Served :=
  match p with
  | [b, k, j3, j2, j1, j0, b3, b2, b1, b0, settle, step, l1, l0] =>
    unlessSaving s <| withLane s b fun n => unlessOff s n <| unlessCapture s n <|
      let w := weighingFields k (s32 j3 j2 j1 j0) (s32 b3 b2 b1 b0) settle step (u16 l1 l0)
      (s.putLane n ((s.lane n).reweighed w)).accept (w8 n :: weighingBytes w)
  | _ => s.refuse .badLength

def execSetLaneWeighing (h : Header) (p : List Byte) (s : State) : Out :=
  .next (serve 20 false h p (setLaneWeighing p) s)

/-- The lane with its suspended flag and its baseline needed flag written. -/
def Lane.suspendWith (l : Lane) (suspended baseline : Bool) : Lane :=
  { l with binding := { l.binding with suspended := suspended, baselineNeeded := baseline } }

/-- The effect of SUSPEND_LANE (R16, R144). -/
def State.suspend (s : State) (n : LaneId) : State :=
  (s.putLane n ((s.lane n).suspendWith true (s.lane n).binding.baselineNeeded)).suspendCalls n

/-- SUSPEND_LANE (R8, R16). -/
def suspendLane (p : List Byte) (s : State) : Served :=
  match p with
  | [b] => unlessSaving s <| withLane s b fun n => unlessOff s n <| unlessCapture s n <|
      require s (!(s.lane n).binding.suspended) .wrongState <| (s.suspend n).accept [w8 n]
  | _ => s.refuse .badLength

def execSuspendLane (h : Header) (p : List Byte) (s : State) : Out :=
  .next (serve 21 false h p (suspendLane p) s)

/-- The effect of RESUME_LANE (R17, R145). -/
def State.resume (s : State) (n : LaneId) : State :=
  (s.putLane n ((s.lane n).suspendWith false true)).sweep [n]

/-- RESUME_LANE (R8, R17). -/
def resumeLane (p : List Byte) (s : State) : Served :=
  match p with
  | [b] => unlessSaving s <| withLane s b fun n => unlessOff s n <| unlessCapture s n <|
      require s (s.lane n).binding.suspended .wrongState <| (s.resume n).accept [w8 n]
  | _ => s.refuse .badLength

def execResumeLane (h : Header) (p : List Byte) (s : State) : Out :=
  .next (serve 22 false h p (resumeLane p) s)

/-! ### Captures and direct calibration (R78, R79, R87, R91) -/

/-- An accepted BEGIN_ZERO or BEGIN_SPAN takes the lowest FREE slot; with none FREE it is refused with BUSY (R78, R79). -/
def State.tryCapture (s : State) (n : LaneId) (kind : CaptureKind) (mass : Nat) : Served :=
  match s.freeCapture with
  | some i => (s.beginCapture i n kind mass).accept
      ([w8 n, w8 kind.code] ++ w32s mass ++ [w8 i] ++ w16 s.device.captureTimeout)
  | none => s.refuse .busy

/-- BEGIN_ZERO (R78, R79). -/
def beginZero (p : List Byte) (s : State) : Served :=
  match p with
  | [b] => withLane s b fun n => unlessOff s n <| unlessCapture s n <|
      require s ((s.lane n).state != .fault) .wrongState <| s.tryCapture n .zero 0
  | _ => s.refuse .badLength

def execBeginZero (h : Header) (p : List Byte) (s : State) : Out :=
  .next (serve 32 false h p (beginZero p) s)

/-- BEGIN_SPAN (R78, R79). -/
def beginSpan (p : List Byte) (s : State) : Served :=
  match p with
  | [b, m3, m2, m1, m0] => withLane s b fun n => unlessOff s n <| unlessCapture s n <|
      require s ((s.lane n).state != .fault) .wrongState <|
      require s (s.lane n).binding.suspended .wrongState <|
      require s (decide (100 ≤ s32 m3 m2 m1 m0) && decide (s32 m3 m2 m1 m0 ≤ 2000000)) .badValue <|
      s.tryCapture n .span (s32 m3 m2 m1 m0).toNat
  | _ => s.refuse .badLength

def execBeginSpan (h : Header) (p : List Byte) (s : State) : Out :=
  .next (serve 33 false h p (beginSpan p) s)

/-- CANCEL_CAPTURE (R78, R87): the reply echoes the lane, the slot freed and the kind of the capture. -/
def cancelCapture (p : List Byte) (s : State) : Served :=
  match p with
  | [b] => withLane s b fun n => unlessOff s n <|
      match s.captureSlot n with
      | some i => match s.capture i with
        | some c => (s.endCapture i n .cancelled).accept [w8 n, w8 i, w8 c.kind.code]
        | none => s.refuse .wrongState
      | none => s.refuse .wrongState
  | _ => s.refuse .badLength

def execCancelCapture (h : Header) (p : List Byte) (s : State) : Out :=
  .next (serve 34 false h p (cancelCapture p) s)

/-- The effect of SET_CALIBRATION (R91): the FAULT source clears if drift was set and the lane is not in FAULT. -/
def State.calibrate (s : State) (n : LaneId) (zero : Int) (gain : Nat) : State :=
  let t := s.putLane n ((s.lane n).calibrated zero gain)
  if (s.lane n).work.drift && (s.lane n).state != .fault then t.clearSource n .fault else t

/-- Are Z0 and G in their ranges (R78, step 10)? -/
def calibrationInRange (zero gain : Int) : Bool :=
  decide (Config.rawMin ≤ zero) && decide (zero ≤ Config.rawMax) && decide (1 ≤ gain) &&
    decide (gain ≤ (Config.gainMax : Int))

/-- SET_CALIBRATION (R78, R91). -/
def setCalibration (p : List Byte) (s : State) : Served :=
  match p with
  | [b, z3, z2, z1, z0, g3, g2, g1, g0] =>
    unlessSaving s <| withLane s b fun n => unlessOff s n <| unlessCapture s n <|
      require s (calibrationInRange (s32 z3 z2 z1 z0) (s32 g3 g2 g1 g0)) .badValue <|
      (s.calibrate n (s32 z3 z2 z1 z0) (s32 g3 g2 g1 g0).toNat).accept
        (w8 n :: w32s (s32 z3 z2 z1 z0) ++ w32s (s32 g3 g2 g1 g0))
  | _ => s.refuse .badLength

def execSetCalibration (h : Header) (p : List Byte) (s : State) : Out :=
  .next (serve 35 false h p (setCalibration p) s)

end Sys2Proof.Machine
end

