-- ==== Sys2Proof/Machine/ExecTime.lean ====
section
/-! DEFINITION. The meanings of the tick, of the events that come about at a tick, of the conversion, and of the events that come
about at a conversion.

A tick and a conversion are whole (R33, R55, R153, R169): what a timer's expiry, a key sample or a plateau does happens inside the
tick or the conversion that brings it. A row that names such an event stands for the tick or the conversion at which the event
comes about: where it does, the command is that whole tick or conversion, and where it does not, nothing happens (log entries 6
and 7). A part that is held in restart takes neither (R198). -/

namespace Sys2Proof.Machine

/-- The tick, or nothing where the row's event does not come about at it. -/
def tickIf (due : Bool) (t : TickInput) (s : State) : State :=
  if s.operating && due then s.ticked t else s

/-- TICK (R152, R153, R169). -/
def execTick (t : TickInput) (s : State) : Out :=
  .next (tickIf true t s)

/-- CAPTURE_TIMEOUT (R86): the tick at which the slot's timeout remaining reaches 0. -/
def execCaptureTimeout (i : CaptureId) (t : TickInput) (s : State) : Out :=
  .next (tickIf (s.captureDue i) t s)

/-- RENOTIFY_EXPIRY (R155): the tick at which the slot's running aging timer reaches 0. -/
def execRenotifyExpiry (i : SlotId) (t : TickInput) (s : State) : Out :=
  .next (tickIf (s.callDue i == .renotify) t s)

/-- SERVICE_EXPIRY (R158): the tick at which the slot's running service timer reaches 0. -/
def execServiceExpiry (i : SlotId) (t : TickInput) (s : State) : Out :=
  .next (tickIf (s.callDue i == .overdue) t s)

/-- WINDOW_EXPIRY (R173): the tick at which the bay's ticks remaining reach 0. -/
def execWindowExpiry (b : BayId) (t : TickInput) (s : State) : Out :=
  .next (tickIf (s.windowDue b) t s)

/-- OVERRIDE_EXPIRY (R181): the tick at which the bay's timed override reaches 0. -/
def execOverrideExpiry (b : BayId) (t : TickInput) (s : State) : Out :=
  .next (tickIf (s.overrideDue b) t s)

/-- KEY_PRESS (R170): the tick whose sample is the second consecutive down sample. -/
def execKeyPress (b : BayId) (t : TickInput) (s : State) : Out :=
  .next (tickIf (s.keyEvent b t == .press) t s)

/-- LONG_PRESS (R171): the tick whose down sample brings the hold to the long-press length. -/
def execLongPress (b : BayId) (t : TickInput) (s : State) : Out :=
  .next (tickIf (s.keyEvent b t == .long) t s)

/-- KEY_RELEASE (R172): the tick whose sample is the second consecutive up sample of a press, short or long done. -/
def execKeyRelease (b : BayId) (t : TickInput) (s : State) : Out :=
  .next (tickIf (s.keyEvent b t == .short || s.keyEvent b t == .letGo) t s)

/-- The conversion, or nothing where the row's event does not come about at it. -/
def convertIf (due : Bool) (rd : Reading) (s : State) : State :=
  if s.operating && due then s.converted rd else s

/-- CONVERSION (R33, R27, R28). -/
def execConversion (rd : Reading) (s : State) : Out :=
  .next (convertIf true rd s)

/-- FAULT_ENTRY (R50): the conversion that is the third abnormal one in a row. -/
def execFaultEntry (rd : Reading) (s : State) : Out :=
  .next (convertIf (s.entersFault rd) rd s)

/-- FAULT_RECOVERY (R52): the conversion that is the eighth NORMAL one in a row in FAULT. -/
def execFaultRecovery (rd : Reading) (s : State) : Out :=
  .next (convertIf (s.leavesFault rd) rd s)

/-- PLATEAU (R38, R55): the conversion that brings the lane from MOVING into STABLE. -/
def execPlateau (rd : Reading) (s : State) : Out :=
  .next (convertIf (s.makesPlateau rd) rd s)

/-- CAPTURE_COMPLETE (R82, R85): the conversion that completes the lane's capture. -/
def execCaptureComplete (rd : Reading) (s : State) : Out :=
  .next (convertIf (s.completesCapture rd) rd s)

end Sys2Proof.Machine
end

