-- ==== Sys2Proof/Machine/Dispatch.lean ====
section
/-! DEFINITION. One arm per command: the meaning of each row of the table. -/

namespace Sys2Proof.Machine

/-- The effect of a command on everything but the queue of waiting commands. -/
def exec (i : Instr) (s : State) : Host.Outcome State Fault Refusal :=
  match i with
  | .powerOn straps => Sys2Proof.Machine.execPowerOn straps s
  | .resetNLow => Sys2Proof.Machine.execResetNLow s
  | .resetNRelease straps => Sys2Proof.Machine.execResetNRelease straps s
  | .lineIdle => Sys2Proof.Machine.execLineIdle s
  | .frameAbandoned chars => Sys2Proof.Machine.execFrameAbandoned chars s
  | .frameDiscarded chars => Sys2Proof.Machine.execFrameDiscarded chars s
  | .unknownKindRequest h kind p => Sys2Proof.Machine.execUnknownKindRequest h kind p s
  | .replyComplete => Sys2Proof.Machine.execReplyComplete s
  | .identify h p => Sys2Proof.Machine.execIdentify h p s
  | .getStatus h p => Sys2Proof.Machine.execGetStatus h p s
  | .restart h p => Sys2Proof.Machine.execRestart h p s
  | .setDevice h p => Sys2Proof.Machine.execSetDevice h p s
  | .saveSettings h p => Sys2Proof.Machine.execSaveSettings h p s
  | .saveComplete agrees => Sys2Proof.Machine.execSaveComplete agrees s
  | .laneSummary h p => Sys2Proof.Machine.execLaneSummary h p s
  | .getLane h p => Sys2Proof.Machine.execGetLane h p s
  | .bindLane h p => Sys2Proof.Machine.execBindLane h p s
  | .unbindLane h p => Sys2Proof.Machine.execUnbindLane h p s
  | .setLaneWeighing h p => Sys2Proof.Machine.execSetLaneWeighing h p s
  | .suspendLane h p => Sys2Proof.Machine.execSuspendLane h p s
  | .resumeLane h p => Sys2Proof.Machine.execResumeLane h p s
  | .beginZero h p => Sys2Proof.Machine.execBeginZero h p s
  | .beginSpan h p => Sys2Proof.Machine.execBeginSpan h p s
  | .cancelCapture h p => Sys2Proof.Machine.execCancelCapture h p s
  | .setCalibration h p => Sys2Proof.Machine.execSetCalibration h p s
  | .readMoves h p => Sys2Proof.Machine.execReadMoves h p s
  | .removeMoves h p => Sys2Proof.Machine.execRemoveMoves h p s
  | .clearJournal h p => Sys2Proof.Machine.execClearJournal h p s
  | .setWatch h p => Sys2Proof.Machine.execSetWatch h p s
  | .getWatch h p => Sys2Proof.Machine.execGetWatch h p s
  | .clearWatchHits h p => Sys2Proof.Machine.execClearWatchHits h p s
  | .nextCall h p => Sys2Proof.Machine.execNextCall h p s
  | .listCalls h p => Sys2Proof.Machine.execListCalls h p s
  | .takeCall h p => Sys2Proof.Machine.execTakeCall h p s
  | .closeCall h p => Sys2Proof.Machine.execCloseCall h p s
  | .clearCalls h p => Sys2Proof.Machine.execClearCalls h p s
  | .setClass h p => Sys2Proof.Machine.execSetClass h p s
  | .getClass h p => Sys2Proof.Machine.execGetClass h p s
  | .setBay h p => Sys2Proof.Machine.execSetBay h p s
  | .getBay h p => Sys2Proof.Machine.execGetBay h p s
  | .openWindow h p => Sys2Proof.Machine.execOpenWindow h p s
  | .closeWindow h p => Sys2Proof.Machine.execCloseWindow h p s
  | .setLamp h p => Sys2Proof.Machine.execSetLamp h p s
  | .setPattern h p => Sys2Proof.Machine.execSetPattern h p s
  | .tick t => Sys2Proof.Machine.execTick t s
  | .captureTimeout slot t => Sys2Proof.Machine.execCaptureTimeout slot t s
  | .renotifyExpiry slot t => Sys2Proof.Machine.execRenotifyExpiry slot t s
  | .serviceExpiry slot t => Sys2Proof.Machine.execServiceExpiry slot t s
  | .windowExpiry bay t => Sys2Proof.Machine.execWindowExpiry bay t s
  | .overrideExpiry bay t => Sys2Proof.Machine.execOverrideExpiry bay t s
  | .keyPress bay t => Sys2Proof.Machine.execKeyPress bay t s
  | .longPress bay t => Sys2Proof.Machine.execLongPress bay t s
  | .keyRelease bay t => Sys2Proof.Machine.execKeyRelease bay t s
  | .conversion rd => Sys2Proof.Machine.execConversion rd s
  | .faultEntry rd => Sys2Proof.Machine.execFaultEntry rd s
  | .faultRecovery rd => Sys2Proof.Machine.execFaultRecovery rd s
  | .plateau rd => Sys2Proof.Machine.execPlateau rd s
  | .captureComplete rd => Sys2Proof.Machine.execCaptureComplete rd s
  | .powerLoss => Sys2Proof.Machine.execPowerLoss s

end Sys2Proof.Machine
end

