-- ==== Sys2Proof/Safety.lean ====
section
/-! DEFINITION. What a safe state of the DP-648 is, in the manual's own laws, and the terms in which the claims speak of a request
and its reply. Each law quantifies over table indices and the entries held at them. -/

namespace Sys2Proof.Machine

/-! ### The laws that every step keeps -/

/-- R93: the journal never holds more than 128 records, and a hold slot is occupied only while it holds 128. A held record is of
the slot's lane. -/
abbrev JournalLaw (s : State) : Prop :=
  s.journal.length ≤ 128 ∧
    ∀ n : LaneId, ∀ m, s.held n = some m → s.journal.length = 128 ∧ m.lane = n

/-- R98: count after differs from count before; a WITHDRAW lowers the count, a RETURN or a REPLENISH raises it. -/
abbrev RecordLaw (m : Movement) : Prop :=
  m.after ≠ m.before ∧ (m.kind = .withdraw → m.after < m.before) ∧
    (m.kind = .giveBack ∨ m.kind = .replenish → m.before < m.after)

/-- R98, over every record in the journal and the hold slots. -/
abbrev RecordsLaw (s : State) : Prop :=
  (∀ m ∈ s.journal, RecordLaw m) ∧ ∀ n : LaneId, ∀ m, s.held n = some m → RecordLaw m

/-- R126: the call table never holds two calls with the same lane and cause. -/
abbrev CallsDistinct (s : State) : Prop :=
  ∀ i j : SlotId, ∀ a b, s.callAt i = some a → s.callAt j = some b → a.lane = b.lane → a.cause = b.cause → i = j

/-- R134: whenever a marker is set, all 32 entries are occupied, and the marked lane has no call of that cause. -/
abbrev MarkersLaw (s : State) : Prop :=
  ∀ n : LaneId, ∀ c : Cause, (s.marker n).has c = true →
    (∀ i : SlotId, s.callAt i ≠ none) ∧ ∀ i : SlotId, ∀ a, s.callAt i = some a → ¬(a.lane = n ∧ a.cause = c)

/-- The call table's two laws together. -/
abbrev CallTableLaw (s : State) : Prop :=
  CallsDistinct s ∧ MarkersLaw s

/-- R7 and R144: an OFF lane has no call, a suspended lane has no RAISED call, and neither has an unplaced marker. -/
abbrev QuietLanes (s : State) : Prop :=
  (∀ i : SlotId, ∀ a, s.callAt i = some a →
    (s.lane a.lane).state ≠ .off ∧ (a.state = .raised → (s.lane a.lane).binding.suspended = false)) ∧
  ∀ n : LaneId, ∀ c : Cause, (s.marker n).has c = true →
    (s.lane n).state ≠ .off ∧ (s.lane n).binding.suspended = false

/-- R77: a lane is in CAPTURE exactly when one slot is running for it. -/
abbrev CaptureLaw (s : State) : Prop :=
  (∀ n : LaneId, (s.lane n).state = .capture ↔ ∃ i : CaptureId, (s.capture i).map Capture.lane = some n) ∧
  ∀ i j : CaptureId, ∀ a b, s.capture i = some a → s.capture j = some b → a.lane = b.lane → i = j

/-- R3: a lane's working zero lies within its calibrated zero plus or minus its track limit. -/
abbrev ZeroLaw (s : State) : Prop :=
  ∀ n : LaneId, ((s.lane n).calibration.working - (s.lane n).calibration.zero).natAbs ≤ (s.lane n).weighing.trackLimit

/-- R67: on a lane whose level is not NONE the level is EMPTY exactly when the committed count is 0, LOW implies a committed
count below C, and OK one above L. -/
abbrev LevelAgrees (l : Lane) : Prop :=
  l.committed.level ≠ .none →
    (l.committed.level = .empty ↔ l.committed.count = 0) ∧
    (l.committed.level = .low → l.committed.count < l.binding.clearMark) ∧
    (l.committed.level = .ok → l.binding.lowMark < l.committed.count)

/-- R67 and R68, and the order of the marks (R2): the level agrees with the committed count, and a level NONE is accompanied by
baseline needed. -/
abbrev LevelLaw (s : State) : Prop :=
  ∀ n : LaneId, (s.lane n).binding.lowMark < (s.lane n).binding.clearMark ∧ LevelAgrees (s.lane n) ∧
    ((s.lane n).committed.level = .none → (s.lane n).binding.baselineNeeded = true)

/-- The marks of the image are in order, as BIND_LANE took them (R9): what `LevelLaw` needs of a restart. -/
abbrev ImageLaw (s : State) : Prop :=
  ∀ i, s.store.image = some i ∨ s.store.copy = some i →
    ∀ n : LaneId, ∀ l, i.lanes[n] = some l → l.lowMark < l.clearMark

/-- R1: every field of an OFF lane holds its factory default. R7: an OFF lane has no held record. -/
abbrev OffLaw (s : State) : Prop :=
  ∀ n : LaneId, (s.lane n).state = .off → s.lane n = Lane.off n ∧ s.held n = none

/-- R186: a reply is in transmission exactly while the receiver is REPLYING. R198: a RESTART waits only for such a reply. -/
abbrev ReplyLaw (s : State) : Prop :=
  (s.link.receiver = .replying ↔ s.link.reply.isSome = true) ∧
    (s.link.restartPending = true → s.link.receiver = .replying)

/-- R196: the copy that a save writes is held exactly while the save state is SAVING. -/
abbrev SaveLaw (s : State) : Prop :=
  s.store.save = .saving ↔ s.store.copy.isSome = true

/-- R129, R131 and R141: a RESTOCK or FAULT call is RAISED or TAKEN only while its source is asserted, a SATISFIED RESTOCK call's
lane is OK and a SATISFIED FAULT call's source is clear, and a WATCH call is never SATISFIED. -/
abbrev CallSourceLaw (s : State) : Prop :=
  ∀ i : SlotId, ∀ a, s.callAt i = some a →
    match a.cause with
    | .restock =>
      (a.state = .satisfied → (s.lane a.lane).committed.level = .ok) ∧
        (a.state ≠ .satisfied → (s.lane a.lane).committed.level = .low ∨ (s.lane a.lane).committed.level = .empty)
    | .fault => a.state = .satisfied ↔ ¬((s.lane a.lane).state = .fault ∨ (s.lane a.lane).work.drift = true)
    | .watch => a.state ≠ .satisfied

/-- R129 and R134: a RESTOCK or a FAULT marker is set only while its source is asserted. -/
abbrev MarkerSourceLaw (s : State) : Prop :=
  ∀ n : LaneId,
    ((s.marker n).restock = true → (s.lane n).committed.level = .low ∨ (s.lane n).committed.level = .empty) ∧
      ((s.marker n).fault = true → (s.lane n).state = .fault ∨ (s.lane n).work.drift = true)

/-! ### Restart, as the claims speak of it (R198 and the restart rule of every block) -/

/-- A lane that the image holds, as it comes out of restart (R20). -/
abbrev BootedLane (i : LaneImage) (l : Lane) : Prop :=
  l.state = .moving ∧ l.binding.item = i.item ∧ l.binding.bay = i.bay ∧ l.binding.unitMass = i.unitMass ∧
    l.binding.tolerance = i.tolerance ∧ l.binding.lowMark = i.lowMark ∧ l.binding.clearMark = i.clearMark ∧
    l.binding.lowClass = i.lowClass ∧ l.binding.emptyClass = i.emptyClass ∧ l.binding.suspended = i.suspended ∧
    l.binding.baselineNeeded = true ∧ l.weighing = i.weighing ∧ l.calibration.zero = i.zero ∧
    l.calibration.working = i.zero ∧ l.calibration.gain = i.gain ∧ l.work = Working.reset ∧
    l.committed = Committed.reset ∧ l.outcome = .none

/-- What a restart takes from the settings store: the image while its checksum matches, the factory defaults otherwise. -/
abbrev LoadedFrom (image : Option Image) (t : State) : Prop :=
  match image with
  | some i =>
    t.store.origin = .loaded ∧ t.device = i.device ∧ t.classes = i.classes ∧ t.patterns = i.patterns ∧
      (∀ w : RuleId, (t.rule w).config = i.rules[w]) ∧ (∀ b : BayId, (t.bay b).settings = i.bays[b]) ∧
      ∀ n : LaneId, match i.lanes[n] with
        | some l => BootedLane l (t.lane n)
        | none => t.lane n = Lane.off n
  | none =>
    t.store.origin = .defaulted ∧ t.device = DeviceSettings.factory ∧ t.classes = ClassRecord.factory ∧
      t.patterns = Pattern.factory ∧ (∀ w : RuleId, (t.rule w).config = WatchConfig.factory) ∧
      (∀ b : BayId, (t.bay b).settings = BaySettings.factory) ∧ ∀ n : LaneId, t.lane n = Lane.off n

/-- The scanner after a restart (R32): SCANNING at the lowest bound lane, or IDLE when none is bound. -/
abbrev ScansFromLowest (t : State) : Prop :=
  match t.scan with
  | some p => p.second = false ∧ (t.lane p.lane).state ≠ .off ∧ ∀ m : LaneId, m < p.lane → (t.lane m).state = .off
  | none => ∀ n : LaneId, (t.lane n).state = .off

/-- `t` is what the restart sequence makes of a part whose pins and settings store are those of `s`. -/
abbrev ComesOutOfRestart (s t : State) : Prop :=
  t.power = s.power ∧ t.link.receiver = .hunt ∧ t.link.unitAddress.toNat = s.power.straps.toNat + 1 ∧
    t.link.lineRate = t.device.linkRate ∧ t.link.reply = none ∧ t.link.restartPending = false ∧
    t.attention = Attention.clear ∧ t.tick = 0 ∧ t.store.image = s.store.image ∧ t.store.save = .idle ∧
    t.store.copy = none ∧ t.pending = s.pending ∧
    t.journal = [] ∧ (∀ n : LaneId, t.held n = none ∧ t.marker n = Markers.clear) ∧ (∀ i : CaptureId, t.capture i = none) ∧
    (∀ i : SlotId, t.entry i = CallEntry.fresh) ∧ (∀ w : RuleId, (t.rule w).hits = 0) ∧
    (∀ b : BayId, (t.bay b).window = none ∧ (t.bay b).key = Key.idle ∧ (t.bay b).forced = none ∧
      (t.bay b).selected = .dark ∧ (t.bay b).phase = 0 ∧ (t.bay b).lit = false) ∧
    LoadedFrom s.store.image t ∧ ScansFromLowest t

/-! ### Requests and replies, as the claims speak of them -/

/-- The payload sizes of each kind of the request table (R191). -/
def payloadSizes (kind : Nat) : List Nat :=
  if kind ∈ [1, 2, 3, 5, 16, 50, 58, 64, 68] then [0]
  else if kind ∈ [17, 19, 21, 22, 32, 34, 48, 49, 57, 65, 73, 81, 83] then [1]
  else if kind ∈ [66, 67] then [2]
  else if kind ∈ [84, 85] then [4]
  else if kind = 33 then [5]
  else if kind = 80 then [6]
  else if kind ∈ [4, 72] then [8]
  else if kind = 35 then [9]
  else if kind = 20 then [14]
  else if kind = 18 then [16]
  else if kind = 56 then [19]
  else if kind = 82 then [1, 3]
  else []

/-- The kinds marked BUSY in the request table, and SAVE_SETTINGS (R191, R196). -/
def busyKinds : List Nat :=
  [3, 4, 5, 18, 19, 20, 21, 22, 35, 56, 72, 80, 85]

/-- The kinds of the requests that only report (R190). -/
def reportKinds : List Nat :=
  [1, 2, 16, 17, 48, 57, 64, 65, 73, 81]

/-- The part runs, its receiver is READY, and the header names this unit: a request with it is received and answered (R186,
R189). -/
abbrev Hears (s : State) (h : Header) : Prop :=
  s.operating = true ∧ s.link.receiver = .ready ∧ h.address ≠ 0 ∧ h.address = s.link.unitAddress

/-- The part runs, its receiver is READY, and the header is a broadcast (R190). -/
abbrev HearsBroadcast (s : State) (h : Header) : Prop :=
  s.operating = true ∧ s.link.receiver = .ready ∧ h.address = 0

/-- `t` with the reply to a request of `s` in transmission: the unit's address, the request's tag, its kind plus 128, the status
and the payload (R189). Every other part of the link stands as in `t`. -/
def answered (s t : State) (h : Header) (kind : Nat) (st : Status) (body : List Byte) : State :=
  { t with
    link := { t.link with
      receiver := .replying
      reply := some { address := s.link.unitAddress, tag := h.tag, kind := w8 (kind + 128), status := st, payload := body } } }

/-- The outcome of a request that is answered with a refusal: nothing but the reply (R189). -/
def refused (s : State) (h : Header) (kind : Nat) (st : Status) : Out :=
  .next (answered s s h kind st [])

/-- The state in which a request that was heard acts: the frame is complete, so the receiver is in HUNT (R186). -/
abbrev atHunt (s : State) : State :=
  s.setReceiver .hunt

/-- `t` is a part held in restart, come from `s` (R197, R198): no output is driven, a running save is cut off, and the tables
stand. That the rest stands until the restart sequence writes it is the model's (log entry 16). -/
abbrev HeldInRestart (s t : State) : Prop :=
  t.operating = false ∧ t.attnLow = false ∧ t.driverEnabled = false ∧ t.excitation = none ∧
    (∀ b : BayId, t.lampLit b = false) ∧
    (s.store.save = .saving → t.store = { s.store with image := none, copy := none, save := .idle }) ∧
    (s.store.save ≠ .saving → t.store = s.store) ∧
    t.link = { s.link with receiver := .hunt, reply := none, restartPending := false } ∧
    (∀ b : BayId, t.bay b = { s.bay b with lit := false }) ∧
    t = { s with power := t.power, link := t.link, store := t.store, scan := none, bays := t.bays }

/-- The calls in the table that satisfy `p`, counted by their slots. -/
def callsWith (s : State) (p : Call → Bool) : Nat :=
  (List.finRange 32).countP fun i => (s.callAt i).any p

/-- The set markers, counted by lane and cause (R134). -/
def markersSet (s : State) : Nat :=
  ((List.finRange 48).flatMap fun n => [Cause.restock, .fault, .watch].filter (s.marker n).has).length

/-- A call of a lane of bay `b` that satisfies `p` stands in the table (R177). -/
abbrev BayCall (s : State) (b : BayId) (p : Call → Prop) : Prop :=
  ∃ i : SlotId, ∃ c, s.callAt i = some c ∧ (s.lane c.lane).binding.bay = b ∧ p c

/-- Everything but the lane table and the call controller's own state (calls, markers, NEW_CALL) stands. -/
abbrev LanesAndCallsOnly (s t : State) : Prop :=
  t = { s with lanes := t.lanes, calls := t.calls, markers := t.markers,
               attention := { s.attention with newCall := t.attention.newCall } }

/-- Everything but the call controller's own state (calls, markers, NEW_CALL) stands. -/
abbrev CallsOnly (s t : State) : Prop :=
  t = { s with calls := t.calls, markers := t.markers, attention := { s.attention with newCall := t.attention.newCall } }

/-- The rank of a cause in the placement order (R135, R145). -/
def causeRank : Cause → Nat
  | .fault => 0
  | .restock => 1
  | .watch => 2

/-- Is the need of lane `n` and cause `c` in class `k` placed before that of `m`, `d` and `l` (R135, R145): the more urgent class,
then the lower lane, then FAULT, RESTOCK, WATCH? -/
def placedBefore (n : LaneId) (c : Cause) (k : ClassId) (m : LaneId) (d : Cause) (l : ClassId) : Bool :=
  decide (k < l) || (k == l && (decide (n < m) || (n == m && decide (causeRank c < causeRank d))))

/-- The class that a source of lane `n` carries now (R70, R122, R123); for a WATCH marker, the class it holds (R134). -/
def carriedClass (s : State) (n : LaneId) : Cause → Option ClassId
  | .restock => match (s.lane n).committed.level with
    | .low => some (s.lane n).binding.lowClass
    | .empty => some (s.lane n).binding.emptyClass
    | _ => none
  | .fault => some s.device.faultClass
  | .watch => (s.marker n).watch

/-- Is the source asserted: the level LOW or EMPTY for RESTOCK, FAULT or drift for FAULT (R122)? -/
def sourceAsserted (l : Lane) : Cause → Bool
  | .restock => l.committed.level == .low || l.committed.level == .empty
  | .fault => l.state == .fault || l.work.drift
  | .watch => false

/-- A call as a raise or a placement makes it at this moment (R126). -/
def raisedCall (s : State) (n : LaneId) (c : Cause) (k : ClassId) : Call :=
  { lane := n, cause := c, cls := k, state := .raised, overdue := false, rehit := false, nag := 0, repeats := 0,
    raiseTick := s.tick, takeTick := none
    aging := if (s.cls k).renotify = 0 then none else some (s.cls k).renotify, service := none }

/-- The age of a stored tick: the ticks elapsed modulo 2^32 (R99, R137); a count above 2^31 is that of a tick still to come, so that
a tick older than 2^31 is judged newer than it is (R152). That it is judged so is the model's reading (log entry 29). -/
def judgedAge (s : State) (t : Tick) : Int :=
  let elapsed := (s.tick - t).toNat
  if 2147483648 < elapsed then (elapsed : Int) - 4294967296 else elapsed

/-- Is the held record `a` of lane `n` drained before `b` of lane `m`: the older, then the lower lane (R99)? -/
abbrev drainsBefore (s : State) (n : LaneId) (a : Movement) (m : LaneId) (b : Movement) : Prop :=
  judgedAge s b.tick < judgedAge s a.tick ∨ (judgedAge s b.tick = judgedAge s a.tick ∧ n < m)

/-- `t` is `s` after placement (R135, R126, R133): every entry that was occupied stands; the free ones are filled from the lowest on,
in the placement order, each with a call raised now in the class its marker carries, its marker cleared; a marker stays only when no
entry is free, and behind every placed need; NEW_CALL is set by a placement in an unmasked class. -/
abbrev PlacedFrom (s t : State) : Prop :=
  CallsOnly s t ∧
    (∀ i : SlotId, (t.entry i).generation = (s.entry i).generation) ∧
    (∀ i : SlotId, s.callAt i ≠ none → t.callAt i = s.callAt i) ∧
    ((∃ i : SlotId, t.callAt i = none) → ∀ n : LaneId, t.marker n = Markers.clear) ∧
    (∀ i : SlotId, ∀ a, s.callAt i = none → t.callAt i = some a →
      (s.marker a.lane).has a.cause = true ∧ (t.marker a.lane).has a.cause = false ∧
      carriedClass s a.lane a.cause = some a.cls ∧ a = raisedCall s a.lane a.cause a.cls ∧
      (∀ j : SlotId, j < i → s.callAt j = none → ∃ b, t.callAt j = some b ∧
        placedBefore b.lane b.cause b.cls a.lane a.cause a.cls = true) ∧
      ∀ n : LaneId, ∀ c : Cause, ∀ k, (t.marker n).has c = true → carriedClass s n c = some k →
        placedBefore a.lane a.cause a.cls n c k = true) ∧
    (∀ n : LaneId, ∀ c : Cause, (t.marker n).has c = true ↔ (s.marker n).has c = true ∧
      ∀ i : SlotId, ∀ a, s.callAt i = none → t.callAt i = some a → ¬(a.lane = n ∧ a.cause = c)) ∧
    (∀ n : LaneId, (t.marker n).has .watch = true → (t.marker n).watch = (s.marker n).watch) ∧
    (t.attention.newCall = true ↔ s.attention.newCall = true ∨
      ∃ i : SlotId, ∃ a, s.callAt i = none ∧ t.callAt i = some a ∧ (s.cls a.cls).masked = false)

/-- `u` is `s` with lane `n` written as `l`, its markers cleared, and every call that satisfies `p` freed (R144, R147): each freed
entry's generation advances, and every other entry stands. -/
abbrev FreedFor (s : State) (n : LaneId) (l : Lane) (p : Call → Bool) (u : State) : Prop :=
  u = { (s.putLane n l).putMarker n Markers.clear with calls := u.calls } ∧
    ∀ i : SlotId, u.entry i =
      if (s.callAt i).any p then { generation := (s.entry i).generation + 1, call := none } else s.entry i

/-- Does an enabled rule's three tests pass on a movement (R111, R112)? -/
abbrev ruleHits (r : WatchRule) (m : Movement) : Prop :=
  r.config.enabled = true ∧
    (match r.config.laneMode with
      | .equal => m.lane = r.config.laneLow
      | .inside => r.config.laneLow ≤ m.lane ∧ m.lane ≤ r.config.laneHigh
      | .outside => m.lane < r.config.laneLow ∨ r.config.laneHigh < m.lane) ∧
    (match m.kind with
      | .withdraw => r.config.kinds.getLsbD 0 = true
      | .giveBack => r.config.kinds.getLsbD 1 = true
      | .replenish => r.config.kinds.getLsbD 2 = true
      | .recount => r.config.kinds.getLsbD 3 = true) ∧
    ∃ size : Nat,
      (match r.config.measure with
        | .count => (size : Int) = |(m.after : Int) - m.before|
        | .grams => (size : Int) = |m.delta|) ∧
      match r.config.magnitudeMode with
        | .inside => r.config.magnitudeLow ≤ size ∧ size ≤ r.config.magnitudeHigh
        | .outside => size < r.config.magnitudeLow ∨ r.config.magnitudeHigh < size

/-- Is the call in slot `i` offered before that in slot `j` (R137)? -/
abbrev offersBefore (s : State) (i : SlotId) (a : Call) (j : SlotId) (b : Call) : Prop :=
  a.cls < b.cls ∨ (a.cls = b.cls ∧ (judgedAge s b.raiseTick < judgedAge s a.raiseTick ∨
    (judgedAge s b.raiseTick = judgedAge s a.raiseTick ∧ i < j)))

/-- `net`, `count` and `firm` are the current values that R40 to R44 compute from the filtered value `f`, the working zero `z`, the
gain, the unit mass `u` and the tolerance. -/
abbrev EstimateOf (f z : Int) (gain u tolerance : Nat) (net : Int) (count : Nat) (firm : Bool) : Prop :=
  let p := (f - z) * gain
  let g := p.sign * ((|p| + 32768) / 65536)
  let n := if net ≤ 0 then 0 else (2 * net + u) / (2 * u)
  net = (if g < -4000000 then -4000000 else if 4000000 < g then 4000000 else g) ∧
    (count : Int) = (if 65535 < n then 65535 else n) ∧
    (firm = true ↔ |net - count * u| * 1000 / u ≤ tolerance ∧ n ≤ 65535 ∧ net = g)

/-- `f` and `calm` are the filtered value and the calm count that R35 to R37 give lane `l` for the raw value `r`. -/
abbrev FilterOf (l : Lane) (r f : Int) (calm : Nat) : Prop :=
  let d := r - l.work.filtered
  let k := l.weighing.shift
  ((l.weighing.jump : Int) < |d| → f = r ∧ calm = 0) ∧
    (|d| ≤ l.weighing.jump →
      f = (if k = 0 then r else l.work.filtered + d.sign * ((|d| + 2 ^ (k - 1)) / 2 ^ k)) ∧
      calm = if |r - f| ≤ l.weighing.band then min 255 (l.work.calm + 1) else 0)

/-- A NORMAL reading with raw value `r` (R23). -/
abbrev NormalReading (rd : Reading) (r : Int) : Prop :=
  rd.lowCurrent = false ∧ rd.raw.toInt = r ∧ r ≠ -8388608 ∧ r ≠ 8388607

/-- The lane under visit of a part that runs (R26). -/
abbrev Visits (s : State) (n : LaneId) : Prop :=
  s.operating = true ∧ s.scan.map ScanPosition.lane = some n

end Sys2Proof.Machine
end

