-- ==== Sys2Proof/Certificates/Slice0/Obligations.lean ====
section
/-! DEFINITION. The statements for the provers, in the order of the manual's work: the link and the store, the lanes, the journal,
the watch unit, the calls and classes, the bays, time and readings, and the invariants that every step keeps. -/

open Sys2Proof Sys2Proof.Machine

/-! ### The step, the frame and the line (chapter 11) -/

/-- A step executes the command at the front of the queue on the state with the queue's rest. -/
def Obligations.StepTakesFront : Prop :=
  ∀ (c : Instr) (rest : List Instr) (s : State), s.pending = c :: rest → step s = exec c { s with pending := rest }

/-- Every command, in every state, answers a next state and leaves the queue alone: the manual has no event that stops the part,
and no request is left without an outcome (R189). -/
def Obligations.EveryCommandCompletes : Prop :=
  ∀ (c : Instr) (s : State), ∃ t, exec c s = .next t ∧ t.pending = s.pending

/-- Decode and encode agree: the frame that carries a well-formed request has 6 bytes plus its payload (R186, R199), and the
receiver of the unit it names, or of any unit when it is a broadcast, judges it to be that request (R187). Any other unit
discards it. -/
def Obligations.FrameRoundTrip : Prop :=
  ∀ (i : Instr) (h : Header) (k : Byte) (p : List Byte) (unit : Byte), wellFormed i = true → requestParts i = some (h, k, p) →
    ∃ chars, frameOf i = some chars ∧ chars.length = 6 + p.length ∧
      ((h.address = 0 ∨ h.address = unit) → judgeFrame unit chars = .request i) ∧
      (h.address ≠ 0 → h.address ≠ unit → judgeFrame unit chars = .discarded)

/-- R188, whole: the register starts at all ones; each bit shifts it one place toward its high end, combined with x^16 + x^12 +
x^5 + 1 when the bit shifted out differs from the data bit; bytes are taken most significant bit first; there is no final
inversion; the result is sent high byte first; the same computation over the address through the two CRC bytes gives 0; the digits
123456789 give 29B1; a reply's CRC is computed the same way. -/
def Obligations.FrameCheckSequence : Prop :=
  crc [] = 0xFFFF#16 ∧
    (∀ (reg : BitVec 16) (bit : Bool),
      crcBit reg bit = if reg.getLsbD 15 ≠ bit then (reg <<< 1) ^^^ 0x1021#16 else reg <<< 1) ∧
    (∀ (bytes : List Byte) (b : Byte),
      crc (bytes ++ [b]) =
        crcBit (crcBit (crcBit (crcBit (crcBit (crcBit (crcBit (crcBit (crc bytes) (b.getLsbD 7)) (b.getLsbD 6)) (b.getLsbD 5))
          (b.getLsbD 4)) (b.getLsbD 3)) (b.getLsbD 2)) (b.getLsbD 1)) (b.getLsbD 0)) ∧
    (∀ bytes : List Byte, crc (bytes ++ [(crc bytes >>> 8).setWidth 8, (crc bytes).setWidth 8]) = 0) ∧
    crc [0x31, 0x32, 0x33, 0x34, 0x35, 0x36, 0x37, 0x38, 0x39] = 0x29B1#16 ∧
    (∀ i h k p, requestParts i = some (h, k, p) →
      frameOf i = some (frameBody h k p ++ [(crc (frameBody h k p) >>> 8).setWidth 8, (crc (frameBody h k p)).setWidth 8])) ∧
    ∀ r : Reply,
      replyFrame r = [r.address, r.tag, r.kind, w8 r.status.code, w8 r.payload.length] ++ r.payload ++
        crcBytes (crc ([r.address, r.tag, r.kind, w8 r.status.code, w8 r.payload.length] ++ r.payload))

/-- What silence and broken frames do (R186, R187). A kind of 128 or above and a length above 240 discard a frame whatever
follows; a complete frame is a request exactly when its CRC matches and its address is 0 or the unit's. A discarded frame leaves
the receiver in HUNT and an abandoned one leaves it in READY, with no other effect; 2 ms of silence bring HUNT to READY; nothing is
received while REPLYING. That the gap which ends an unheard frame in HUNT brings READY too is read from R186 (log entry 23). -/
def Obligations.LineEventsMoveTheReceiver : Prop :=
  (∀ (unit a t k : Byte) (rest : List Byte), 128 ≤ k.toNat → judgeFrame unit (a :: t :: k :: rest) = .discarded) ∧
    (∀ (unit a t k len : Byte) (rest : List Byte), 240 < len.toNat → judgeFrame unit (a :: t :: k :: len :: rest) = .discarded) ∧
    (∀ (unit k c d : Byte) (h : Header) (p : List Byte), k.toNat < 128 → p.length ≤ 240 →
      judgeFrame unit (frameBody h k p ++ [c, d]) =
        if [c, d] = crcBytes (crc (frameBody h k p)) ∧ (h.address = 0 ∨ h.address = unit) then .request (requestOf h k p)
        else .discarded) ∧
    ∀ (s : State) (chars : List Byte), s.operating = true →
      (s.link.receiver = .ready → judgeFrame s.link.unitAddress chars = .discarded →
        exec (.frameDiscarded chars) s = .next { s with link := { s.link with receiver := .hunt } }) ∧
      (s.link.receiver = .hunt ∨ s.link.receiver = .replying → exec (.frameDiscarded chars) s = .next s) ∧
      (s.link.receiver = .ready ∨ s.link.receiver = .hunt → unfinishedFrame chars = true →
        exec (.frameAbandoned chars) s = .next { s with link := { s.link with receiver := .ready } }) ∧
      (s.link.receiver = .replying → exec (.frameAbandoned chars) s = .next s) ∧
      (s.link.receiver = .ready ∨ s.link.receiver = .hunt →
        exec .lineIdle s = .next { s with link := { s.link with receiver := .ready } }) ∧
      (s.link.receiver = .replying → exec .lineIdle s = .next s)

/-- A request frame that opens while the receiver is not in READY, or while the part is held in restart, is lost (R186, R198), and
one addressed to another unit is discarded (R187): neither has any effect. That a request which is not heard is lost, and leaves
the receiver as it is, is read from R186 and R198 (log entry 9). -/
def Obligations.UnheardRequestsHaveNoEffect : Prop :=
  ∀ (i : Instr) (h : Header) (k : Byte) (p : List Byte) (s : State), wellFormed i = true → requestParts i = some (h, k, p) →
    ((s.operating = false ∨ s.link.receiver ≠ .ready) → exec i s = .next s) ∧
      (s.operating = true → s.link.receiver = .ready → h.address ≠ 0 → h.address ≠ s.link.unitAddress →
        exec i s = .next (atHunt s))

/-- R190: a broadcast is taken with the unit's own checks and its effect is that of the same request addressed to the unit, with
no reply; one that only reports changes nothing; a broadcast SET_DEVICE changes the link rate when it is taken; a broadcast RESTART
restarts the unit that takes it; one of unknown kind does nothing. That the restart comes about at once, in the command itself, is
the model's reading (log entry 20). -/
def Obligations.BroadcastsActWithoutReply : Prop :=
  ∀ (s : State) (h : Header) (kind : Byte) (p : List Byte), HearsBroadcast s h → s.link.unitAddress ≠ 0 →
    kind.toNat < 128 → p.length ≤ 240 →
    ∃ t u, exec (requestOf h kind p) s = .next t ∧
      exec (requestOf { h with address := s.link.unitAddress } kind p) s = .next u ∧
      if kind.toNat ∈ reportKinds then t = atHunt s
      else if kind.toNat = 3 then
        if u.link.reply.map Reply.status = some .ok then ComesOutOfRestart s t else t = atHunt s
      else if kind.toNat = 4 then
        t = { u with link := { s.link with
          receiver := .hunt
          lineRate := if u.link.reply.map Reply.status = some .ok then u.device.linkRate else s.link.lineRate } }
      else t = { u with link := { s.link with receiver := .hunt } }

/-- A kind of 0, or one from 1 to 127 that names no request of the request table, is answered UNKNOWN_KIND (R189), and broadcast it
is not answered (R190). A payload whose size differs from the size that the request table gives its kind is answered BAD_LENGTH
(R189, R191). Nothing else changes. -/
def Obligations.UnknownKindsAndSizesAreRefused : Prop :=
  ∀ (s : State) (h : Header) (kind : Byte) (p : List Byte), p.length ≤ 240 →
    (kind.toNat < 128 → kind.toNat ∉ requestKinds →
      (Hears s h → exec (.unknownKindRequest h kind p) s = refused s h kind.toNat .unknownKind) ∧
      (HearsBroadcast s h → exec (.unknownKindRequest h kind p) s = .next (atHunt s))) ∧
    (kind.toNat ∈ requestKinds → p.length ∉ payloadSizes kind.toNat → Hears s h →
      exec (requestOf h kind p) s = refused s h kind.toNat .badLength)

/-- While a save runs, a request marked BUSY in the request table, RESTART and a second SAVE_SETTINGS among them, is answered BUSY
and changes nothing; of the others, only BEGIN_ZERO and BEGIN_SPAN can be answered BUSY (R191, R196). -/
def Obligations.SavingRefusesStoredSettings : Prop :=
  ∀ (s : State) (h : Header) (kind : Byte) (p : List Byte), Hears s h → s.store.save = .saving →
    (kind.toNat ∈ busyKinds → p.length ∈ payloadSizes kind.toNat →
      exec (requestOf h kind p) s = refused s h kind.toNat .busy) ∧
    (kind.toNat ∈ requestKinds → kind.toNat ∉ busyKinds → kind.toNat ≠ 32 → kind.toNat ≠ 33 → p.length ≤ 240 →
      ∃ t, exec (requestOf h kind p) s = .next t ∧ t.link.reply.map Reply.status ≠ some .busy)

/-! ### Device requests, the settings store and restart (chapter 11) -/

/-- R192 and R195. IDENTIFY reports the part number 648, the layout revision 1, the unit address, the settings origin and the six
device settings, and changes nothing. GET_STATUS reports the attention reasons, the numbers of calls in each state, the unplaced
count, the journal count, the occupied hold slots, the RUNNING capture slots, the settings origin, the save state and the tick
counter; taking it clears every reason, and ATTN is then released. Both whatever the save state. -/
def Obligations.IdentifyAndGetStatusReport : Prop :=
  ∀ (s : State) (h : Header), Hears s h →
    exec (.identify h []) s = .next (answered s s h 1 .ok
      ([2, 136, 1, s.link.unitAddress, w8 s.store.origin.code] ++ w16 s.device.conversionRate.perSecond ++
        [w8 s.device.faultClass, w8 s.device.urgentLimit] ++ w16 s.device.captureTimeout ++
        [w8 s.device.watermark, w8 s.device.linkRate.code])) ∧
    exec (.getStatus h []) s = .next (answered s { s with attention := Attention.clear } h 2 .ok
      ([attentionByte s.attention, w8 (callsWith s fun c => c.state == .raised), w8 (callsWith s fun c => c.state == .taken),
          w8 (callsWith s fun c => c.state == .satisfied), w8 (markersSet s), w8 s.journal.length,
          w8 ((List.finRange 48).countP fun n => (s.held n).isSome),
          w8 ((List.finRange 4).countP fun i => (s.capture i).isSome), w8 s.store.origin.code, w8 s.store.save.code] ++
        w32 s.tick)) ∧
    ∀ t, exec (.getStatus h []) s = .next t → t.attnLow = false

/-- R193 with R90, R101 and R123: SET_DEVICE takes all six settings, the capture timeout clamped to 50–3,000 and the watermark to
1–128; a changed fault class is offered to every FAULT call, which takes it when it is the more urgent; the reply echoes the
settings as taken, at the rate in force. A conversion rate, a class or a code that names no value refuses all six. -/
def Obligations.SetDeviceTakesAllSettings : Prop :=
  ∀ (s : State) (h : Header) (r1 r0 f u t1 t0 m l : Byte), Hears s h → s.store.save ≠ .saving →
    (∀ (rate : ConversionRate) (fc uc : ClassId) (lr : LinkRate), r1.toNat * 256 + r0.toNat = rate.perSecond →
      f.toNat = fc.val → u.toNat = uc.val → l.toNat = lr.code →
      ∃ t, exec (.setDevice h [r1, r0, f, u, t1, t0, m, l]) s = .next (answered s t h 4 .ok
          ([r1, r0, f, u] ++ w16 (max 50 (min 3000 (t1.toNat * 256 + t0.toNat))) ++ [w8 (max 1 (min 128 m.toNat)), l])) ∧
        t = { s with
          calls := t.calls
          device := { conversionRate := rate, faultClass := fc, urgentLimit := uc, linkRate := lr
                      captureTimeout := max 50 (min 3000 (t1.toNat * 256 + t0.toNat)), watermark := max 1 (min 128 m.toNat) } } ∧
        ∀ i : SlotId, (t.entry i).generation = (s.entry i).generation ∧
          t.callAt i = if fc = s.device.faultClass then s.callAt i
            else (s.callAt i).map fun c => if c.cause = .fault then { c with cls := min c.cls fc } else c) ∧
    ((r1.toNat * 256 + r0.toNat ∉ [100, 200, 400, 800] ∨ 7 < f.toNat ∨ 7 < u.toNat ∨ 2 < l.toNat) →
      exec (.setDevice h [r1, r0, f, u, t1, t0, m, l]) s = refused s h 4 .badValue)

/-- R196 and R197: SAVE_SETTINGS outside a save copies the stored values as they stand and enters SAVING; the end of the write
gives DONE with the copy as the stored image when the read-back agrees, and FAILED with a bad checksum when it differs; either sets
SAVE_DONE. An end of a save that no save leads to changes nothing (log entry 7). -/
def Obligations.SavesCopyAndEnd : Prop :=
  (∀ (s : State) (h : Header), Hears s h → s.store.save ≠ .saving →
    ∃ i : Image, exec (.saveSettings h []) s =
        .next (answered s { s with store := { s.store with copy := some i, save := .saving } } h 5 .ok []) ∧
      i.classes = s.classes ∧ i.patterns = s.patterns ∧ i.device = s.device ∧
      (∀ w : RuleId, i.rules[w] = (s.rule w).config) ∧ (∀ b : BayId, i.bays[b] = (s.bay b).settings) ∧
      ∀ n : LaneId, i.lanes[n] =
        if (s.lane n).state = .off then none
        else some
          { item := (s.lane n).binding.item, bay := (s.lane n).binding.bay, unitMass := (s.lane n).binding.unitMass,
            tolerance := (s.lane n).binding.tolerance, lowMark := (s.lane n).binding.lowMark,
            clearMark := (s.lane n).binding.clearMark, lowClass := (s.lane n).binding.lowClass,
            emptyClass := (s.lane n).binding.emptyClass, suspended := (s.lane n).binding.suspended,
            weighing := (s.lane n).weighing, zero := (s.lane n).calibration.zero, gain := (s.lane n).calibration.gain }) ∧
  ∀ s : State, s.operating = true →
    (s.store.save = .saving →
      exec (.saveComplete true) s = .next { s with
        store := { s.store with image := s.store.copy, copy := none, save := .done }
        attention := { s.attention with saveDone := true } } ∧
      exec (.saveComplete false) s = .next { s with
        store := { s.store with image := none, copy := none, save := .failed }
        attention := { s.attention with saveDone := true } }) ∧
    (s.store.save ≠ .saving → ∀ agrees, exec (.saveComplete agrees) s = .next s)

/-- An accepted RESTART sends its reply, status OK with no payload, and the restart begins when the reply's last character has
been sent (R198). The end of any other reply brings the receiver to HUNT, and a new link rate into force (R186, R193). No reply in
transmission, there is no end of one (log entry 7). -/
def Obligations.RestartFollowsItsReply : Prop :=
  (∀ (s : State) (h : Header), Hears s h → s.store.save ≠ .saving →
    exec (.restart h []) s = .next (answered s { s with link := { s.link with restartPending := true } } h 3 .ok [])) ∧
  ∀ s : State, s.operating = true →
    (s.link.receiver = .replying → s.link.restartPending = true →
      ∃ t, exec .replyComplete s = .next t ∧ ComesOutOfRestart s t) ∧
    (s.link.receiver = .replying → s.link.restartPending = false →
      exec .replyComplete s =
        .next { s with link := { s.link with receiver := .hunt, reply := none, lineRate := s.device.linkRate } }) ∧
    (s.link.receiver ≠ .replying → exec .replyComplete s = .next s)

/-- Power-on with RESET_N high, and the release of RESET_N with the supply up, are one restart (R198): every block comes out of it
as its chapter lays down (R20, R32, R76, R92, R108, R110, R148, R151, R152, R168). While either still holds the part, only the
pins change. A rise of what is up changes nothing (log entry 7). -/
def Obligations.PartComesOutOfRestart : Prop :=
  ∀ (s : State) (straps : BitVec 5),
    (s.power.supplyUp = false → s.power.resetLow = false →
      ∃ t, exec (.powerOn straps) s = .next t ∧
        ComesOutOfRestart { s with power := { supplyUp := true, resetLow := false, straps := straps } } t) ∧
    (s.power.supplyUp = true → s.power.resetLow = true →
      ∃ t, exec (.resetNRelease straps) s = .next t ∧
        ComesOutOfRestart { s with power := { supplyUp := true, resetLow := false, straps := straps } } t) ∧
    (s.power.supplyUp = false → s.power.resetLow = true →
      exec (.powerOn straps) s = .next { s with power := { supplyUp := true, resetLow := true, straps := straps } } ∧
      exec (.resetNRelease straps) s = .next { s with power := { supplyUp := false, resetLow := false, straps := straps } }) ∧
    (s.power.supplyUp = true → exec (.powerOn straps) s = .next s) ∧
    (s.power.resetLow = false → exec (.resetNRelease straps) s = .next s)

/-- A low RESET_N and a loss of the supply hold the part in restart (R198): the lamps are unlit, the excitation is off, the driver
is disabled, ATTN is released, and a running save is cut off with a bad checksum (R197). A held part takes no command but the
supply's and the pin's. That all else stands while the part is held, and that no other command changes it, is read from R198 (log
entry 16); that a second RESET_N_LOW or POWER_LOSS changes nothing is the model's choice (log entry 7). -/
def Obligations.HeldPartDrivesAndTakesNothing : Prop :=
  (∀ s : State,
    (s.power.resetLow = false →
      ∃ t, exec .resetNLow s = .next t ∧ HeldInRestart s t ∧ t.power = { s.power with resetLow := true }) ∧
    (s.power.resetLow = true → exec .resetNLow s = .next s) ∧
    (s.power.supplyUp = true →
      ∃ t, exec .powerLoss s = .next t ∧ HeldInRestart s t ∧ t.power = { s.power with supplyUp := false }) ∧
    (s.power.supplyUp = false → exec .powerLoss s = .next s)) ∧
  ∀ (s : State) (c : Instr), s.operating = false → wellFormed c = true →
    c ≠ .resetNLow → c ≠ .powerLoss → (∀ straps, c ≠ .powerOn straps ∧ c ≠ .resetNRelease straps) → exec c s = .next s

/-! ### Lanes (chapters 1 and 5) -/

/-- The checks of a lane request in the order of R8, each with the checks before it passed: a lane number above 47, an OFF lane, a
lane in CAPTURE, an occupied hold slot, the suspension asked for already in force, and the values that BIND_LANE refuses (R9). A
refused request changes nothing. -/
def Obligations.LaneRequestsAreCheckedInOrder : Prop :=
  ∀ (s : State) (h : Header) (kind b : Byte) (r : List Byte) (n : LaneId), Hears s h → s.store.save ≠ .saving →
    (b :: r).length ∈ payloadSizes kind.toNat →
    (kind.toNat ∈ [17, 18, 19, 20, 21, 22] → 47 < b.toNat → exec (requestOf h kind (b :: r)) s = refused s h kind.toNat .badValue) ∧
    (b.toNat = n.val →
      (kind.toNat ∈ [19, 20, 21, 22] → (s.lane n).state = .off →
        exec (requestOf h kind (b :: r)) s = refused s h kind.toNat .laneOff) ∧
      (kind.toNat ∈ [18, 19, 20, 21, 22] → (s.lane n).state = .capture →
        exec (requestOf h kind (b :: r)) s = refused s h kind.toNat .laneBusy) ∧
      ((s.lane n).state ≠ .off → (s.lane n).state ≠ .capture →
        (kind = 19 → s.held n ≠ none → exec (requestOf h kind (b :: r)) s = refused s h kind.toNat .laneBusy) ∧
        (kind = 21 → (s.lane n).binding.suspended = true →
          exec (requestOf h kind (b :: r)) s = refused s h kind.toNat .wrongState) ∧
        (kind = 22 → (s.lane n).binding.suspended = false →
          exec (requestOf h kind (b :: r)) s = refused s h kind.toNat .wrongState)) ∧
      ((s.lane n).state ≠ .capture →
        ∀ i3 i2 i1 i0 u1 u0 t1 t0 l1 l0 c1 c0 lc ec bay : Byte,
          (u16 u1 u0 = 0 ∨ 60000 < u16 u1 u0 ∨ u16 c1 c0 ≤ u16 l1 l0 ∨ 10000 < u16 c1 c0 ∨ 7 < lc.toNat ∨ 7 < ec.toNat ∨
            5 < bay.toNat) →
          exec (.bindLane h [b, i3, i2, i1, i0, u1, u0, t1, t0, l1, l0, c1, c0, lc, ec, bay]) s =
            refused s h 18 .badValue))

/-- R10 and R30: BIND_LANE on an OFF lane writes the binding from the request (the tolerance clamped, R9), keeps the factory
calibration and weighing settings, gives the working and committed groups their reset values and enters MOVING; an IDLE scanner
starts a round at that lane; the reply echoes the fields as taken and the lane's state. A scanner that is SCANNING keeps its
visit, also where this lane is the one under visit (log entry 26). -/
def Obligations.BindFromOffSetsUpTheLane : Prop :=
  ∀ (s : State) (h : Header) (n : LaneId) (item : BitVec 32) (u tol low clear : Nat) (lc ec : ClassId) (bay : BayId),
    Hears s h → s.store.save ≠ .saving → (s.lane n).state = .off → 1 ≤ u → u ≤ 60000 → tol < 65536 → low < clear →
    clear ≤ 10000 →
    exec (.bindLane h (w8 n :: w32 item ++ w16 u ++ w16 tol ++ w16 low ++ w16 clear ++ [w8 lc, w8 ec, w8 bay])) s =
      .next (answered s
        { s with
          scan := match s.scan with
            | some p => some p
            | none => some { lane := n, second := false }
          lanes := s.lanes.set n.val
            { state := .moving
              binding := { item := item, bay := bay, unitMass := u, tolerance := max 10 (min 450 tol), lowMark := low,
                           clearMark := clear, lowClass := lc, emptyClass := ec, suspended := false, baselineNeeded := true }
              weighing := { shift := 3, jump := 20000, band := 200, settle := 8, trackStep := 4, trackLimit := 2000 }
              calibration := { zero := 0, working := 0, gain := 65536 }
              work := { filtered := 0, calm := 0, abnormalRun := 0, recoveryRun := 0, faultReason := .none, drift := false,
                        net := 0, count := 0, firm := false, stale := false }
              committed := { count := 0, net := 0, firm := false, level := .none, carryOver := false, recountDue := false }
              outcome := .none } n.isLt }
        h 18 .ok
        (w8 n :: w32 item ++ w16 u ++ w16 (max 10 (min 450 tol)) ++ w16 low ++ w16 clear ++ [w8 lc, w8 ec, w8 bay, 1]))

/-- R11 and R69: BIND_LANE on a bound lane rewrites the binding in place, keeps the suspended flag, and sets baseline needed when
the unit mass changes. The level is re-evaluated when L or C changes, unless it is NONE; a level that becomes OK clears the RESTOCK
source, one that becomes LOW asserts it, and while the level stays the class it carries is offered to the lane's RESTOCK call when
that class changed (R128). Nothing else changes. -/
def Obligations.BindInPlaceKeepsTheLane : Prop :=
  ∀ (s : State) (h : Header) (n : LaneId) (item : BitVec 32) (u tol low clear : Nat) (lc ec : ClassId) (bay : BayId),
    Hears s h → s.store.save ≠ .saving → (s.lane n).state ≠ .off → (s.lane n).state ≠ .capture → LevelAgrees (s.lane n) →
    1 ≤ u → u ≤ 60000 → tol < 65536 → low < clear → clear ≤ 10000 →
    ∃ (t : State) (lv : Level),
      exec (.bindLane h (w8 n :: w32 item ++ w16 u ++ w16 tol ++ w16 low ++ w16 clear ++ [w8 lc, w8 ec, w8 bay])) s =
        .next (answered s t h 18 .ok
          (w8 n :: w32 item ++ w16 u ++ w16 (max 10 (min 450 tol)) ++ w16 low ++ w16 clear ++
            [w8 lc, w8 ec, w8 bay, w8 (s.lane n).state.code])) ∧
      LanesAndCallsOnly (atHunt s) t ∧ (∀ m, m ≠ n → t.lane m = s.lane m) ∧
      t.lane n = { s.lane n with
        binding := { item := item, bay := bay, unitMass := u, tolerance := max 10 (min 450 tol), lowMark := low,
                     clearMark := clear, lowClass := lc, emptyClass := ec, suspended := (s.lane n).binding.suspended
                     baselineNeeded := (s.lane n).binding.baselineNeeded || decide ((s.lane n).binding.unitMass ≠ u) }
        committed := { (s.lane n).committed with level := lv } } ∧
      lv = (if (s.lane n).committed.level = .none ∨ (s.lane n).binding.lowMark = low ∧ (s.lane n).binding.clearMark = clear then
          (s.lane n).committed.level
        else if (s.lane n).committed.count = 0 then .empty
        else if (s.lane n).committed.count ≤ low then .low
        else if clear ≤ (s.lane n).committed.count then .ok
        else (s.lane n).committed.level) ∧
      (lv = .ok → (s.lane n).committed.level ≠ .ok → t = ((atHunt s).putLane n (t.lane n)).clearSource n .restock) ∧
      (lv = .low → (s.lane n).committed.level = .ok → t = ((atHunt s).putLane n (t.lane n)).assertSource n .restock lc) ∧
      (lv = (s.lane n).committed.level →
        (lv = .low → lc ≠ (s.lane n).binding.lowClass →
          t = ((atHunt s).putLane n (t.lane n)).offerClass n .restock lc) ∧
        (lv = .empty → ec ≠ (s.lane n).binding.emptyClass →
          t = ((atHunt s).putLane n (t.lane n)).offerClass n .restock ec) ∧
        ((lv = .none ∨ lv = .ok ∨ lv = .low ∧ lc = (s.lane n).binding.lowClass ∨
            lv = .empty ∧ ec = (s.lane n).binding.emptyClass) →
          t = (atHunt s).putLane n (t.lane n)))

/-- R12, R31 and R147: UNBIND_LANE clears the lane's markers, frees all its calls (each generation advances), places into the
freed entries from the markers of other lanes, and leaves the lane OFF with its factory defaults. No other lane changes, no call
of another lane changes, and the scanner, the journal, the watch rules and the rest stand. The freed and the free entries are
filled by placement as R135 lays down: from the lowest on, in the placement order, each in the class its marker carries, with
NEW_CALL for an unmasked class (the markers with their sources, as every step keeps them). -/
def Obligations.UnbindFreesTheLane : Prop :=
  ∀ (s : State) (h : Header) (n : LaneId), Hears s h → s.store.save ≠ .saving → (s.lane n).state ≠ .off →
    (s.lane n).state ≠ .capture → s.held n = none →
    ∃ t, exec (.unbindLane h [w8 n]) s = .next (answered s t h 19 .ok [w8 n]) ∧ LanesAndCallsOnly (atHunt s) t ∧
      t.lane n = Lane.off n ∧ (∀ m, m ≠ n → t.lane m = s.lane m) ∧ t.marker n = Markers.clear ∧
      (∀ i : SlotId, ∀ a, t.callAt i = some a → a.lane ≠ n) ∧
      (∀ i : SlotId, ∀ a, s.callAt i = some a → a.lane ≠ n → t.entry i = s.entry i) ∧
      (∀ i : SlotId, (t.entry i).generation =
        (s.entry i).generation + if (s.callAt i).any fun a => a.lane == n then 1 else 0) ∧
      (∀ i : SlotId, ∀ a, t.callAt i = some a →
        s.callAt i = some a ∨
          ((s.marker a.lane).has a.cause = true ∧ (t.marker a.lane).has a.cause = false ∧
            a = raisedCall s a.lane a.cause a.cls)) ∧
      (∀ m : LaneId, ∀ c : Cause, (t.marker m).has c = true →
        (s.marker m).has c = true ∧ ∀ i : SlotId, t.callAt i ≠ none) ∧
      ∃ u, FreedFor (atHunt s) n (s.lane n) (fun a => a.lane == n) u ∧ t = u.place.putLane n (Lane.off n) ∧
        (MarkerSourceLaw s → PlacedFrom u u.place)

/-- R13, R14 and R15: SET_LANE_WEIGHING takes its six values, each clamped into its range, and clamps Z at once into Z0 ± the new
track limit. F, the calm count, the state and everything else stand. The reply echoes the values as taken. -/
def Obligations.SetLaneWeighingClamps : Prop :=
  ∀ (s : State) (h : Header) (n : LaneId) (k settle step : Byte) (jump band : BitVec 32) (limit : Nat), Hears s h →
    s.store.save ≠ .saving → (s.lane n).state ≠ .off → (s.lane n).state ≠ .capture → limit < 65536 →
    let w : Weighing :=
      { shift := min 6 k.toNat, jump := (max 1 (min 8388607 jump.toInt)).toNat, band := (max 1 (min 1000000 band.toInt)).toNat,
        settle := max 2 (min 32 settle.toNat), trackStep := step.toNat, trackLimit := limit }
    let z0 := (s.lane n).calibration.zero
    let z := (s.lane n).calibration.working
    exec (.setLaneWeighing h (w8 n :: k :: w32 jump ++ w32 band ++ [settle, step] ++ w16 limit)) s =
      .next (answered s
        (s.putLane n { s.lane n with
          weighing := w
          calibration := { (s.lane n).calibration with
            working := if z < z0 - limit then z0 - limit else if z0 + limit < z then z0 + limit else z } })
        h 20 .ok
        ([w8 n, w8 w.shift] ++ w32s w.jump ++ w32s w.band ++ [w8 w.settle, step] ++ w16 limit))

/-- R16 and R144: SUSPEND_LANE sets the suspended flag, clears the lane's unplaced markers, frees its RAISED calls (each generation
advances), and runs placement from the markers of other lanes; the lane's TAKEN and SATISFIED calls and every other field of the
lane stay. Placement fills the freed and the free entries as R135 lays down: from the lowest on, in the placement order, each in the
class its marker carries, with NEW_CALL for an unmasked class (the markers with their sources, as every step keeps them). -/
def Obligations.SuspendFreesRaisedCalls : Prop :=
  ∀ (s : State) (h : Header) (n : LaneId), Hears s h → s.store.save ≠ .saving → (s.lane n).state ≠ .off →
    (s.lane n).state ≠ .capture → (s.lane n).binding.suspended = false →
    ∃ t, exec (.suspendLane h [w8 n]) s = .next (answered s t h 21 .ok [w8 n]) ∧ LanesAndCallsOnly (atHunt s) t ∧
      t.lane n = { s.lane n with binding := { (s.lane n).binding with suspended := true } } ∧
      (∀ m, m ≠ n → t.lane m = s.lane m) ∧ t.marker n = Markers.clear ∧
      (∀ i : SlotId, ∀ a, t.callAt i = some a → a.lane = n → a.state ≠ .raised) ∧
      (∀ i : SlotId, ∀ a, s.callAt i = some a → ¬(a.lane = n ∧ a.state = .raised) → t.entry i = s.entry i) ∧
      (∀ i : SlotId, (t.entry i).generation =
        (s.entry i).generation + if (s.callAt i).any fun a => a.lane == n && a.state == .raised then 1 else 0) ∧
      (∀ i : SlotId, ∀ a, t.callAt i = some a →
        s.callAt i = some a ∨
          ((s.marker a.lane).has a.cause = true ∧ (t.marker a.lane).has a.cause = false ∧
            a = raisedCall s a.lane a.cause a.cls)) ∧
      (∀ m : LaneId, ∀ c : Cause, (t.marker m).has c = true →
        (s.marker m).has c = true ∧ ∀ i : SlotId, t.callAt i ≠ none) ∧
      ∃ u, FreedFor (atHunt s) n { s.lane n with binding := { (s.lane n).binding with suspended := true } }
          (fun a => a.lane == n && a.state == .raised) u ∧ t = u.place ∧ (MarkerSourceLaw s → PlacedFrom u t)

/-- R17 and R145: RESUME_LANE clears the suspended flag, sets baseline needed, and sweeps the lane: each asserted FAULT and RESTOCK
source without a call and without a marker gets a RAISED call in the lowest free entry, or its marker when none is free, the more
urgent class first and FAULT before RESTOCK; every other call and marker stands. -/
def Obligations.ResumeSweepsTheLane : Prop :=
  ∀ (s : State) (h : Header) (n : LaneId), Hears s h → s.store.save ≠ .saving → (s.lane n).state ≠ .off →
    (s.lane n).state ≠ .capture → (s.lane n).binding.suspended = true →
    ∃ t, exec (.resumeLane h [w8 n]) s = .next (answered s t h 22 .ok [w8 n]) ∧ LanesAndCallsOnly (atHunt s) t ∧
      t.lane n = { s.lane n with binding := { (s.lane n).binding with suspended := false, baselineNeeded := true } } ∧
      (∀ m, m ≠ n → t.lane m = s.lane m ∧ t.marker m = s.marker m) ∧
      (∀ i : SlotId, (t.entry i).generation = (s.entry i).generation ∧ (s.callAt i ≠ none → t.callAt i = s.callAt i)) ∧
      (t.marker n).watch = (s.marker n).watch ∧
      (∀ i : SlotId, ∀ a, s.callAt i = none → t.callAt i = some a →
        a.lane = n ∧ sourceAsserted (s.lane n) a.cause = true ∧ (s.marker n).has a.cause = false ∧
          (∀ j : SlotId, ∀ b, s.callAt j = some b → ¬(b.lane = n ∧ b.cause = a.cause)) ∧
          some a.cls = carriedClass s n a.cause ∧ a = raisedCall s n a.cause a.cls ∧
          (∀ j : SlotId, j < i → s.callAt j = none → ∃ b, t.callAt j = some b ∧
            placedBefore b.lane b.cause b.cls n a.cause a.cls = true) ∧
          ∀ c : Cause, ∀ k, (t.marker n).has c = true → (s.marker n).has c = false → carriedClass s n c = some k →
            placedBefore n a.cause a.cls n c k = true) ∧
      (∀ c : Cause, ((t.marker n).has c = true ↔
          (s.marker n).has c = true ∨
            (sourceAsserted (s.lane n) c = true ∧ ∀ i : SlotId, ∀ a, t.callAt i = some a → ¬(a.lane = n ∧ a.cause = c))) ∧
        ((t.marker n).has c = true → (s.marker n).has c = false → ∀ i : SlotId, t.callAt i ≠ none)) ∧
      (t.attention.newCall = true ↔ s.attention.newCall = true ∨
        ∃ i : SlotId, ∃ a, s.callAt i = none ∧ t.callAt i = some a ∧ (s.cls a.cls).masked = false)

/-- The checks of the capture requests in the order of R78, each with the checks before it passed: an OFF lane, a lane in CAPTURE,
no RUNNING slot, a lane in FAULT, a lane not suspended, the test mass, Z0 and G, and no FREE slot. -/
def Obligations.CaptureRequestsAreCheckedInOrder : Prop :=
  ∀ (s : State) (h : Header) (b : Byte) (n : LaneId) (mass zero gain : BitVec 32), Hears s h →
    (47 < b.toNat →
      exec (.beginZero h [b]) s = refused s h 32 .badValue ∧ exec (.cancelCapture h [b]) s = refused s h 34 .badValue ∧
      exec (.beginSpan h (b :: w32 mass)) s = refused s h 33 .badValue ∧
      (s.store.save ≠ .saving → exec (.setCalibration h (b :: w32 zero ++ w32 gain)) s = refused s h 35 .badValue)) ∧
    ((s.lane n).state = .off →
      exec (.beginZero h [w8 n]) s = refused s h 32 .laneOff ∧ exec (.cancelCapture h [w8 n]) s = refused s h 34 .laneOff ∧
      exec (.beginSpan h (w8 n :: w32 mass)) s = refused s h 33 .laneOff ∧
      (s.store.save ≠ .saving → exec (.setCalibration h (w8 n :: w32 zero ++ w32 gain)) s = refused s h 35 .laneOff)) ∧
    ((s.lane n).state = .capture →
      exec (.beginZero h [w8 n]) s = refused s h 32 .laneBusy ∧
      exec (.beginSpan h (w8 n :: w32 mass)) s = refused s h 33 .laneBusy ∧
      (s.store.save ≠ .saving → exec (.setCalibration h (w8 n :: w32 zero ++ w32 gain)) s = refused s h 35 .laneBusy)) ∧
    ((s.lane n).state ≠ .off → (∀ i : CaptureId, ∀ c, s.capture i = some c → c.lane ≠ n) →
      exec (.cancelCapture h [w8 n]) s = refused s h 34 .wrongState) ∧
    ((s.lane n).state = .fault →
      exec (.beginZero h [w8 n]) s = refused s h 32 .wrongState ∧
      exec (.beginSpan h (w8 n :: w32 mass)) s = refused s h 33 .wrongState) ∧
    ((s.lane n).state = .moving ∨ (s.lane n).state = .stable →
      ((s.lane n).binding.suspended = false →
        exec (.beginSpan h (w8 n :: w32 mass)) s = refused s h 33 .wrongState) ∧
      ((s.lane n).binding.suspended = true → (mass.toInt < 100 ∨ 2000000 < mass.toInt) →
        exec (.beginSpan h (w8 n :: w32 mass)) s = refused s h 33 .badValue) ∧
      ((∀ i : CaptureId, s.capture i ≠ none) →
        exec (.beginZero h [w8 n]) s = refused s h 32 .busy ∧
        ((s.lane n).binding.suspended = true → 100 ≤ mass.toInt → mass.toInt ≤ 2000000 →
          exec (.beginSpan h (w8 n :: w32 mass)) s = refused s h 33 .busy))) ∧
    ((s.lane n).state ≠ .off → (s.lane n).state ≠ .capture → s.store.save ≠ .saving →
      (zero.toInt < -8388608 ∨ 8388607 < zero.toInt ∨ gain.toInt < 1 ∨ 4194304 < gain.toInt) →
      exec (.setCalibration h (w8 n :: w32 zero ++ w32 gain)) s = refused s h 35 .badValue)

/-- R77, R79 and R87: BEGIN_ZERO and BEGIN_SPAN take the lowest FREE slot, with restart pending and the capture timeout as it
stands, and the lane enters CAPTURE from MOVING or STABLE with calm count 0 and outcome RUNNING; CANCEL_CAPTURE frees the lane's
slot and the lane leaves CAPTURE for MOVING with calm count 0 and outcome CANCELLED. All are taken while a save runs; nothing else
changes. -/
def Obligations.CapturesBeginAndCancel : Prop :=
  ∀ (s : State) (h : Header) (n : LaneId) (i : CaptureId), Hears s h →
    ((s.lane n).state = .moving ∨ (s.lane n).state = .stable → s.capture i = none → (∀ j, j < i → s.capture j ≠ none) →
      let l : Lane := { s.lane n with state := .capture, work := { (s.lane n).work with calm := 0 }, outcome := .running }
      exec (.beginZero h [w8 n]) s =
        .next (answered s
          ((s.putCapture i (some { lane := n, kind := .zero, testMass := 0, restartPending := true,
                                   remaining := s.device.captureTimeout })).putLane n l)
          h 32 .ok ([w8 n, 0, 0, 0, 0, 0, w8 i] ++ w16 s.device.captureTimeout)) ∧
      ∀ mass : BitVec 32, (s.lane n).binding.suspended = true → 100 ≤ mass.toInt → mass.toInt ≤ 2000000 →
        exec (.beginSpan h (w8 n :: w32 mass)) s =
          .next (answered s
            ((s.putCapture i (some { lane := n, kind := .span, testMass := mass.toNat, restartPending := true,
                                     remaining := s.device.captureTimeout })).putLane n l)
            h 33 .ok ([w8 n, 1] ++ w32 mass ++ [w8 i] ++ w16 s.device.captureTimeout))) ∧
    ∀ c : Capture, (s.lane n).state = .capture → s.capture i = some c → c.lane = n →
      (∀ j d, s.capture j = some d → d.lane = n → j = i) →
      exec (.cancelCapture h [w8 n]) s =
        .next (answered s
          ((s.putCapture i none).putLane n
            { s.lane n with state := .moving, work := { (s.lane n).work with calm := 0 }, outcome := .cancelled })
          h 34 .ok [w8 n, w8 i, w8 c.kind.code])

/-- R91: SET_CALIBRATION writes Z0 and G, puts Z on Z0, clears drift and sets baseline needed. If drift was set and the lane is not
in FAULT, its FAULT source clears, and the call controller takes the clearance (R129); otherwise no call changes. -/
def Obligations.SetCalibrationWrites : Prop :=
  ∀ (s : State) (h : Header) (n : LaneId) (zero gain : BitVec 32), Hears s h → s.store.save ≠ .saving →
    (s.lane n).state ≠ .off → (s.lane n).state ≠ .capture → -8388608 ≤ zero.toInt → zero.toInt ≤ 8388607 → 1 ≤ gain.toInt →
    gain.toInt ≤ 4194304 →
    let t := (atHunt s).putLane n { s.lane n with
      calibration := { zero := zero.toInt, working := zero.toInt, gain := gain.toNat }
      work := { (s.lane n).work with drift := false }
      binding := { (s.lane n).binding with baselineNeeded := true } }
    exec (.setCalibration h (w8 n :: w32 zero ++ w32 gain)) s =
      .next (answered s
        (if (s.lane n).work.drift = true ∧ (s.lane n).state ≠ .fault then t.clearSource n .fault else t)
        h 35 .ok (w8 n :: w32 zero ++ w32 gain))

/-- R18 and R19: LANE_SUMMARY reports 48 lane status records in lane order; GET_LANE reports a lane of any state, whatever the save
state, with the fields in the rule's order. Neither changes anything. -/
def Obligations.LaneReportsShowTheRecords : Prop :=
  ∀ (s : State) (h : Header), Hears s h →
    exec (.laneSummary h []) s =
      .next (answered s s h 16 .ok ((List.finRange 48).flatMap fun n => laneStatusRecord (s.lane n))) ∧
    ∀ n : LaneId,
      let l := s.lane n
      exec (.getLane h [w8 n]) s =
        .next (answered s s h 17 .ok
          (laneStatusRecord l ++ w32 l.binding.item ++ [w8 l.binding.bay] ++ w16 l.binding.unitMass ++ w16 l.binding.tolerance ++
            w16 l.binding.lowMark ++ w16 l.binding.clearMark ++ [w8 l.binding.lowClass, w8 l.binding.emptyClass] ++
            w32s l.calibration.zero ++ w32s l.calibration.working ++ w32s l.calibration.gain ++ [w8 l.weighing.shift] ++
            w32s l.weighing.jump ++ w32s l.weighing.band ++ [w8 l.weighing.settle, w8 l.weighing.trackStep] ++
            w16 l.weighing.trackLimit ++ w32s l.work.filtered ++
            [w8 l.work.calm, w8 l.work.abnormalRun, w8 l.work.recoveryRun] ++ w32s l.work.net ++ w16 l.work.count ++
            [flag l.work.firm] ++ w32s l.committed.net ++ [w8 l.outcome.code, flag (s.held n).isSome]))

/-- R191 and R199: the codes are numbered from 0 in the manual's order, multi-byte fields travel most significant byte first, and
the lane status record, the movement record, the call record and the attention byte have the layouts of the tables. -/
def Obligations.RecordsHaveTheirLayouts : Prop :=
  [LaneState.off, .moving, .stable, .fault, .capture].map LaneState.code = [0, 1, 2, 3, 4] ∧
    [Level.none, .ok, .low, .empty].map Level.code = [0, 1, 2, 3] ∧
    [MoveKind.withdraw, .giveBack, .replenish, .recount].map MoveKind.code = [0, 1, 2, 3] ∧
    [Cause.restock, .fault, .watch].map Cause.code = [0, 1, 2] ∧
    [CallState.raised, .taken, .satisfied].map CallState.code = [0, 1, 2] ∧
    [Display.fault, .urgent, .window, .call, .taken, .dark, .steady].map Display.code = [0, 1, 2, 3, 4, 5, 6] ∧
    (∀ n, n < 65536 → ∃ a b : Byte, w16 n = [a, b] ∧ n = a.toNat * 256 + b.toNat) ∧
    (∀ v : BitVec 32, ∃ a b c d : Byte, w32 v = [a, b, c, d] ∧
      v.toNat = a.toNat * 16777216 + b.toNat * 65536 + c.toNat * 256 + d.toNat) ∧
    (∀ x : Int, -2147483648 ≤ x → x ≤ 2147483647 → ∃ v : BitVec 32, w32s x = w32 v ∧ v.toInt = x) ∧
    (∀ l : Lane, ∃ a b : Byte, laneStatusRecord l = a :: w16 l.committed.count ++ [b] ∧
      a.toNat / 32 = l.state.code ∧ a.toNat / 8 % 4 = l.committed.level.code ∧ a.toNat / 2 % 4 = l.work.faultReason.code ∧
      a.toNat % 2 = 0 ∧ b.getLsbD 0 = l.binding.suspended ∧ b.getLsbD 1 = l.binding.baselineNeeded ∧
      b.getLsbD 2 = l.committed.firm ∧ b.getLsbD 3 = l.work.stale ∧ b.getLsbD 4 = l.work.drift ∧
      b.getLsbD 5 = l.committed.carryOver ∧ b.getLsbD 6 = l.committed.recountDue ∧ b.getLsbD 7 = false) ∧
    (∀ m : Movement, ∃ b : Byte,
      movementRecord m = w32 m.tick ++ [w8 m.lane, w8 m.kind.code] ++ w16 m.before ++ w16 m.after ++ w32s m.delta ++
        [b, w8 m.contributors] ∧
      b.getLsbD 0 = m.loose ∧ b.getLsbD 1 = m.merged ∧ b.toNat < 4) ∧
    (∀ (i : SlotId) (g : BitVec 8) (item : BitVec 32) (c : Call), ∃ b tc : Byte, ∃ tv : Nat,
      callRecord i g item c = [w8 i, g, w8 c.lane, w8 c.cause.code] ++ w32 item ++
        [w8 c.cls, w8 c.state.code, b, w8 c.nag, w8 c.repeats] ++ w32 c.raiseTick ++ w32 (c.takeTick.getD 0) ++ [tc] ++ w16 tv ∧
      b.getLsbD 0 = c.overdue ∧ b.getLsbD 1 = c.rehit ∧ b.getLsbD 2 = c.takeTick.isSome ∧ b.toNat < 8 ∧
      (c.state = .raised → tc = (if c.aging.isSome then 0 else 3) ∧ tv = c.aging.getD 0) ∧
      (c.state = .taken → tc = (if c.service.isSome then 1 else 3) ∧ tv = c.service.getD 0) ∧
      (c.state = .satisfied → tc = (if c.service.isSome then 2 else 3) ∧ tv = c.service.getD 0)) ∧
    ∀ a : Attention, (attentionByte a).getLsbD 0 = a.newCall ∧ (attentionByte a).getLsbD 1 = a.renotify ∧
      (attentionByte a).getLsbD 2 = a.overdue ∧ (attentionByte a).getLsbD 3 = a.journal ∧ (attentionByte a).getLsbD 4 = a.held ∧
      (attentionByte a).getLsbD 5 = a.fault ∧ (attentionByte a).getLsbD 6 = a.saveDone ∧ (attentionByte a).getLsbD 7 = false

/-! ### The journal and the watch unit (chapters 6 and 7) -/

/-- R104 and R106. READ_MOVES returns the smallest of the number wanted, 8 and the journal count, from the head, oldest first, and
changes nothing. CLEAR_JOURNAL empties the journal and every hold slot and reports how many records it discarded from each; nothing
else changes. -/
def Obligations.ReadMovesAndClearJournal : Prop :=
  ∀ (s : State) (h : Header), Hears s h →
    (∀ wanted : Byte,
      let count := min wanted.toNat (min 8 s.journal.length)
      exec (.readMoves h [wanted]) s =
        .next (answered s s h 48 .ok
          ([w8 count, w8 s.journal.length] ++ ((s.journal.take count).map movementRecord).flatten))) ∧
    exec (.clearJournal h []) s =
      .next (answered s { s with journal := [], holds := Vector.replicate 48 none } h 50 .ok
        [w8 s.journal.length, w8 ((List.finRange 48).countP fun n => (s.held n).isSome)])

/-- R105 with R99 and R102: REMOVE_MOVES removes from the head the smaller of the number to remove and the journal count; when it
removes at least one, the drain follows: held records join the tail, oldest first and the lower lane first among equals, until the
journal holds 128 or every hold slot is empty. JOURNAL is set when the drain brings the count from below the watermark to it, and
nothing else changes. The oldest is told by ages counted modulo 2^32, those above 2^31 being judged newer, as R152 is read (log
entry 29). -/
def Obligations.RemoveMovesDrainsTheHolds : Prop :=
  ∀ (s : State) (h : Header) (number : Byte), Hears s h → JournalLaw s →
    let k := min number.toNat s.journal.length
    ∃ (t : State) (drained : List LaneId),
      exec (.removeMoves h [number]) s =
        .next (answered s t h 49 .ok
          [w8 k, w8 t.journal.length, w8 ((List.finRange 48).countP fun n => (t.held n).isSome)]) ∧
      t = { s with
        journal := t.journal, holds := t.holds
        attention := { s.attention with
          journal := s.attention.journal ||
            decide (s.journal.length - k < s.device.watermark ∧ s.device.watermark ≤ t.journal.length) } } ∧
      t.journal = s.journal.drop k ++ drained.filterMap s.held ∧ drained.Nodup ∧
      (∀ n ∈ drained, (s.held n).isSome = true) ∧
      (∀ n : LaneId, t.held n = if n ∈ drained then none else s.held n) ∧
      (k = 0 → drained = []) ∧
      (0 < k → t.journal.length = 128 ∨ ∀ n : LaneId, t.held n = none) ∧
      (drained.Pairwise fun n m => ∀ a b, s.held n = some a → s.held m = some b → drainsBefore s n a m b) ∧
      ∀ n ∈ drained, ∀ m : LaneId, ∀ a b, s.held n = some a → t.held m = some b → drainsBefore s n a m b

/-- R95 to R98 and R102. Below 128 records a movement enters the journal at its tail, and sets JOURNAL when it brings the count to
the watermark; at 128 it enters its lane's empty hold slot and sets HELD, or is merged into the record there: discarded when the net
change is 0; otherwise with the old tick and count before, the new count after, the gram deltas added and saturated at ±8,000,000 g,
loose if either was, merged set, the contributors added and saturated at 255, and the kind by the table. A merged record keeps the
relations between kind and counts. Nothing else changes. -/
def Obligations.MovementsEnterOrMerge : Prop :=
  (∀ (s : State) (m : Movement),
    (s.journal.length < 128 → s.journalEntry m =
      { s with
        journal := s.journal ++ [m]
        attention := { s.attention with
          journal := s.attention.journal || decide (s.journal.length + 1 = s.device.watermark) } }) ∧
    (s.journal.length = 128 → s.held m.lane = none → s.journalEntry m =
      { s with
        holds := s.holds.set m.lane.val (some m) m.lane.isLt
        attention := { s.attention with held := true } }) ∧
    (s.journal.length = 128 → ∀ old, s.held m.lane = some old → s.journalEntry m =
      { s with holds := s.holds.set m.lane.val (merge old m) m.lane.isLt })) ∧
  ∀ old new : Movement,
    (new.after = old.before → merge old new = none) ∧
    (new.after ≠ old.before →
      ∃ m, merge old new = some m ∧ m.tick = old.tick ∧ m.lane = old.lane ∧ m.before = old.before ∧ m.after = new.after ∧
        m.delta = (if old.delta + new.delta < -8000000 then -8000000
          else if 8000000 < old.delta + new.delta then 8000000 else old.delta + new.delta) ∧
        m.loose = (old.loose || new.loose) ∧ m.merged = true ∧ m.contributors = min 255 (old.contributors + new.contributors) ∧
        (old.kind = .recount ∨ new.kind = .recount → m.kind = .recount) ∧
        (old.kind ≠ .recount → new.kind ≠ .recount →
          (new.after < old.before → m.kind = .withdraw) ∧
          (old.before < new.after → new.kind ≠ .withdraw → m.kind = new.kind) ∧
          (old.before < new.after → new.kind = .withdraw →
            m.kind = if old.kind = .replenish then .replenish else .giveBack)) ∧
        RecordLaw m)

/-- R116 to R119. SET_WATCH writes every field of a rule, lane high taken equal to lane low under EQUAL, and zeroes its counter; the
values R116 lists are refused. GET_WATCH reports a rule and changes nothing. CLEAR_WATCH_HITS reports the eight counters as they
stood and zeroes them. That both replies send bits 4 to 7 of the kind set as 0 is the model's choice (log entry 27). -/
def Obligations.WatchRequestsReadAndWriteRules : Prop :=
  (∀ (s : State) (h : Header) (w : RuleId) (c : WatchConfig) (kinds : Byte), Hears s h → s.store.save ≠ .saving →
    c.kinds = kinds.setWidth 4 →
    (c.laneMode ≠ .equal → c.laneLow ≤ c.laneHigh) → c.magnitudeLow ≤ c.magnitudeHigh → c.magnitudeHigh ≤ 8000000 →
    let taken := { c with laneHigh := if c.laneMode = .equal then c.laneLow else c.laneHigh }
    exec (.setWatch h ([w8 w, flag c.enabled, w8 c.laneMode.code, w8 c.laneLow, w8 c.laneHigh, kinds,
          w8 c.measure.code, w8 c.magnitudeMode.code] ++ w32s c.magnitudeLow ++ w32s c.magnitudeHigh ++
          [w8 c.action.code, w8 c.cls, flag c.oneShot])) s =
      .next (answered s { s with rules := s.rules.set w.val { config := taken, hits := 0 } w.isLt } h 56 .ok
        ([w8 w, flag c.enabled, w8 c.laneMode.code, w8 c.laneLow, w8 taken.laneHigh, c.kinds.setWidth 8,
          w8 c.measure.code, w8 c.magnitudeMode.code] ++ w32s c.magnitudeLow ++ w32s c.magnitudeHigh ++
          [w8 c.action.code, w8 c.cls, flag c.oneShot, 0, 0]))) ∧
  (∀ (s : State) (h : Header) (b en mode lo hi kinds measure mmode action cls one : Byte) (mlo mhi : BitVec 32), Hears s h →
    s.store.save ≠ .saving →
    (7 < b.toNat ∨ 1 < en.toNat ∨ 2 < mode.toNat ∨ 47 < lo.toNat ∨ 47 < hi.toNat ∨ (mode ≠ 0 ∧ hi.toNat < lo.toNat) ∨
      1 < measure.toNat ∨ 1 < mmode.toNat ∨ mlo.toInt < 0 ∨ 8000000 < mlo.toInt ∨ mhi.toInt < 0 ∨ 8000000 < mhi.toInt ∨
      mhi.toInt < mlo.toInt ∨ 1 < action.toNat ∨ 7 < cls.toNat ∨ 1 < one.toNat) →
    exec (.setWatch h ([b, en, mode, lo, hi, kinds, measure, mmode] ++ w32 mlo ++ w32 mhi ++ [action, cls, one])) s =
      refused s h 56 .badValue) ∧
  (∀ (s : State) (h : Header) (b : Byte), Hears s h → 7 < b.toNat → exec (.getWatch h [b]) s = refused s h 57 .badValue) ∧
  ∀ (s : State) (h : Header) (w : RuleId), Hears s h →
    exec (.getWatch h [w8 w]) s =
      .next (answered s s h 57 .ok
        ([w8 w, flag (s.rule w).config.enabled, w8 (s.rule w).config.laneMode.code, w8 (s.rule w).config.laneLow,
          w8 (s.rule w).config.laneHigh, (s.rule w).config.kinds.setWidth 8, w8 (s.rule w).config.measure.code,
          w8 (s.rule w).config.magnitudeMode.code] ++ w32s (s.rule w).config.magnitudeLow ++
          w32s (s.rule w).config.magnitudeHigh ++ [w8 (s.rule w).config.action.code, w8 (s.rule w).config.cls,
          flag (s.rule w).config.oneShot] ++ w16 (s.rule w).hits)) ∧
    ∃ t, exec (.clearWatchHits h []) s =
        .next (answered s t h 58 .ok ((List.finRange 8).flatMap fun v => w16 (s.rule v).hits)) ∧
      t = { s with rules := t.rules } ∧ ∀ v : RuleId, t.rule v = { s.rule v with hits := 0 }

/-- R111 to R115: a rule whose lane, kind and magnitude tests pass on a movement counts it, saturating at 65,535, and disables
itself if one-shot; every other rule stands. One WATCH hit goes to the call controller when a RAISE rule matches, in the most urgent
class among the matching RAISE rules, and none otherwise. -/
def Obligations.WatchRulesCountAndHit : Prop :=
  ∀ (s : State) (m : Movement), ∃ u : State,
    u = { s with rules := u.rules } ∧
    (∀ w : RuleId,
      (ruleHits (s.rule w) m → u.rule w =
        { hits := min 65535 ((s.rule w).hits + 1)
          config := { (s.rule w).config with enabled := !(s.rule w).config.oneShot } }) ∧
      (¬ruleHits (s.rule w) m → u.rule w = s.rule w)) ∧
    ((∀ w : RuleId, ¬(ruleHits (s.rule w) m ∧ (s.rule w).config.action = .raise)) → s.watchEvaluate m = u) ∧
    ∀ w : RuleId, ruleHits (s.rule w) m → (s.rule w).config.action = .raise →
      (∀ v : RuleId, ruleHits (s.rule v) m → (s.rule v).config.action = .raise →
        (s.rule w).config.cls ≤ (s.rule v).config.cls) →
      s.watchEvaluate m = u.assertSource m.lane .watch (s.rule w).config.cls

/-! ### Calls (chapter 8) -/

/-- R137 and R138. NEXT_CALL reports the number of RAISED calls in unmasked classes and, when there is one, the record of the most
urgent, then the oldest by raise tick, then the lowest slot. LIST_CALLS reports up to 8 of the occupied entries at or above the
starting slot, in slot order; a starting slot above 31 is refused (R139). Neither changes anything. The oldest is told by ages
counted modulo 2^32, those above 2^31 being judged newer, as R152 is read (log entry 29). -/
def Obligations.CallReportsShowTheTable : Prop :=
  ∀ (s : State) (h : Header), Hears s h →
    let offered (a : Call) : Bool := a.state == .raised && !(s.cls a.cls).masked
    let record (i : SlotId) (a : Call) := callRecord i (s.entry i).generation (s.lane a.lane).binding.item a
    ((∀ i : SlotId, ∀ a, s.callAt i = some a → offered a = false) →
      exec (.nextCall h []) s = .next (answered s s h 64 .ok [0, 0])) ∧
    (∀ i : SlotId, ∀ a, s.callAt i = some a → offered a = true →
      (∀ j : SlotId, ∀ b, s.callAt j = some b → offered b = true → j ≠ i → offersBefore s i a j b) →
      exec (.nextCall h []) s = .next (answered s s h 64 .ok ([w8 (callsWith s offered), 1] ++ record i a))) ∧
    (∀ i : SlotId,
      let slots := ((List.finRange 32).filter fun j => decide (i ≤ j) && (s.callAt j).isSome).take 8
      exec (.listCalls h [w8 i]) s =
        .next (answered s s h 65 .ok
          (w8 slots.length :: slots.flatMap fun j => ((s.callAt j).map (record j)).getD []))) ∧
    ∀ b : Byte, 31 < b.toNat → exec (.listCalls h [b]) s = refused s h 65 .badValue

/-- R139 and R140. TAKE_CALL and CLOSE_CALL answer BAD_VALUE for a slot above 31, STALE_CALL for a free slot or another
generation, and WRONG_STATE for a call that is not RAISED, or is RAISED; a refused request changes nothing. A TAKE_CALL that passes
moves the call from RAISED to TAKEN, with the take tick now, the aging timer discarded and the service timer loaded from its class's
service limit (none for a limit of 0); everything else of the call and of the part stands, and the reply carries its record. -/
def Obligations.CallIdsAreCheckedAndTaken : Prop :=
  ∀ (s : State) (h : Header) (slot g : Byte) (i : SlotId), Hears s h →
    (31 < slot.toNat →
      exec (.takeCall h [slot, g]) s = refused s h 66 .badValue ∧ exec (.closeCall h [slot, g]) s = refused s h 67 .badValue) ∧
    (s.callAt i = none ∨ (s.entry i).generation ≠ g →
      exec (.takeCall h [w8 i, g]) s = refused s h 66 .staleCall ∧ exec (.closeCall h [w8 i, g]) s = refused s h 67 .staleCall) ∧
    ∀ a, s.callAt i = some a → (s.entry i).generation = g →
      (a.state ≠ .raised → exec (.takeCall h [w8 i, g]) s = refused s h 66 .wrongState) ∧
      (a.state = .raised → exec (.closeCall h [w8 i, g]) s = refused s h 67 .wrongState) ∧
      (a.state = .raised →
        let b : Call := { a with
          state := .taken, takeTick := some s.tick, aging := none
          service := if (s.cls a.cls).serviceLimit = 0 then none else some (s.cls a.cls).serviceLimit }
        exec (.takeCall h [w8 i, g]) s =
          .next (answered s (s.putCall i b) h 66 .ok (callRecord i g (s.lane a.lane).binding.item b)))

/-- R141 and R142: CLOSE_CALL returns to RAISED a TAKEN WATCH call with rehit set, or a TAKEN RESTOCK or FAULT call whose source
is asserted, unless its lane is suspended: repeats increase up to 255, the nag count, overdue, rehit, the take tick and the
service timer are cleared, the aging timer is loaded, and NEW_CALL is set if the class is unmasked. Any other call is freed, the
generation advances, and placement follows (a TAKEN RESTOCK or FAULT call with its source clear, which no run reaches, by log
entry 15). The reply's outcome byte, freed 0 and returned 1, is the model's reading (log entry 11). -/
def Obligations.CloseCallFreesOrReturns : Prop :=
  ∀ (s : State) (h : Header) (i : SlotId) (a : Call), Hears s h → s.callAt i = some a → a.state ≠ .raised →
    let g := (s.entry i).generation
    let again : Prop := (s.lane a.lane).binding.suspended = false ∧ a.state = .taken ∧
      ((a.cause = .watch ∧ a.rehit = true) ∨ sourceAsserted (s.lane a.lane) a.cause = true)
    let b : Call := { a with
      state := .raised, takeTick := none, repeats := min 255 (a.repeats + 1), nag := 0, overdue := false, rehit := false
      service := none, aging := if (s.cls a.cls).renotify = 0 then none else some (s.cls a.cls).renotify }
    (again → exec (.closeCall h [w8 i, g]) s =
      .next (answered s
        { s.putCall i b with
          attention := { s.attention with newCall := s.attention.newCall || !(s.cls a.cls).masked } }
        h 67 .ok (1 :: callRecord i g (s.lane a.lane).binding.item b))) ∧
    (¬again → exec (.closeCall h [w8 i, g]) s =
      .next (answered s (((atHunt s).putEntry i { generation := g + 1, call := none }).place) h 67 .ok [0]))

/-- R146 and R145: CLEAR_CALLS frees every entry (each generation of an occupied one advances), clears every marker, and sweeps all
lanes: afterwards each asserted RESTOCK or FAULT source of a lane that is bound and not suspended has exactly one call, RAISED now
in the class it carries, or its marker when no entry is free; there is no other call and no other marker; the needs fill the
lowest entries in the placement order. The reply gives the calls freed and the markers cleared. -/
def Obligations.ClearCallsStartsAfresh : Prop :=
  ∀ (s : State) (h : Header), Hears s h →
    ∃ t, exec (.clearCalls h []) s =
        .next (answered s t h 68 .ok [w8 (callsWith s fun _ => true), w8 (markersSet s)]) ∧
      CallsOnly (atHunt s) t ∧
      (∀ i : SlotId, (t.entry i).generation = (s.entry i).generation + if (s.callAt i).isSome then 1 else 0) ∧
      (∀ n : LaneId, ∀ c : Cause,
        (((s.lane n).state ≠ .off ∧ (s.lane n).binding.suspended = false ∧ sourceAsserted (s.lane n) c = true) ↔
          (∃ i : SlotId, ∃ a, t.callAt i = some a ∧ a.lane = n ∧ a.cause = c) ∨ (t.marker n).has c = true) ∧
        ((t.marker n).has c = true → (∀ i : SlotId, t.callAt i ≠ none) ∧
          ∀ i : SlotId, ∀ a, t.callAt i = some a → ¬(a.lane = n ∧ a.cause = c))) ∧
      CallsDistinct t ∧
      (∀ i : SlotId, ∀ a, t.callAt i = some a →
        some a.cls = carriedClass s a.lane a.cause ∧ a = raisedCall s a.lane a.cause a.cls) ∧
      (∀ i j : SlotId, ∀ b, i < j → t.callAt j = some b →
        ∃ a, t.callAt i = some a ∧ placedBefore a.lane a.cause a.cls b.lane b.cause b.cls = true) ∧
      (∀ i : SlotId, ∀ a, ∀ n : LaneId, ∀ c : Cause, ∀ k, t.callAt i = some a → (t.marker n).has c = true →
        carriedClass s n c = some k → placedBefore a.lane a.cause a.cls n c k = true) ∧
      (t.attention.newCall = true ↔
        s.attention.newCall = true ∨ ∃ i : SlotId, ∃ a, t.callAt i = some a ∧ (s.cls a.cls).masked = false)

/-- R126, R127, R130, R131 and R134, on an assertion of a source. An existing call of the lane and cause takes the more urgent
class; a SATISFIED one returns to TAKEN, and a WATCH hit sets rehit on a TAKEN one. With no call, a set marker stays (a WATCH marker
keeps the more urgent class). With neither, a bound lane that is not suspended gets a RAISED call in the lowest free entry, with
NEW_CALL if the class is unmasked, or its marker when no entry is free. Nothing else changes. -/
def Obligations.SourceAssertionsRaiseOrAct : Prop :=
  ∀ (s : State) (n : LaneId) (c : Cause) (k : ClassId),
    (CallsDistinct s → ∀ i : SlotId, ∀ a, s.callAt i = some a → a.lane = n → a.cause = c →
      s.assertSource n c k = s.putCall i { a with
        cls := if k < a.cls then k else a.cls
        state := if a.state = .satisfied then .taken else a.state
        rehit := a.rehit || (a.cause == .watch && a.state == .taken) }) ∧
    ((∀ i : SlotId, ∀ a, s.callAt i = some a → ¬(a.lane = n ∧ a.cause = c)) →
      ((s.marker n).has c = true → s.assertSource n c k = s.putMarker n { s.marker n with
        watch := if c = .watch then (s.marker n).watch.map fun held => if k < held then k else held else (s.marker n).watch }) ∧
      ((s.marker n).has c = false →
        ((s.lane n).state = .off ∨ (s.lane n).binding.suspended = true → s.assertSource n c k = s) ∧
        ((s.lane n).state ≠ .off → (s.lane n).binding.suspended = false →
          (∀ i : SlotId, s.callAt i = none → (∀ j, j < i → s.callAt j ≠ none) →
            s.assertSource n c k =
              { s.putCall i (raisedCall s n c k) with
                attention := { s.attention with newCall := s.attention.newCall || !(s.cls k).masked } }) ∧
          ((∀ i : SlotId, s.callAt i ≠ none) →
            s.assertSource n c k = s.putMarker n (match c with
              | .restock => { s.marker n with restock := true }
              | .fault => { s.marker n with fault := true }
              | .watch => { s.marker n with watch := some k })))))

/-- R129: a clearance withdraws a RAISED call (its entry is freed, the generation advances, placement follows), makes a TAKEN one
SATISFIED with nothing else of it changed, and clears a marker; with a SATISFIED call there is nothing to do, and with neither call
nor marker nothing changes. -/
def Obligations.SourceClearancesRetire : Prop :=
  ∀ (s : State) (n : LaneId) (c : Cause), c ≠ .watch → CallsDistinct s →
    (∀ i : SlotId, ∀ a, s.callAt i = some a → a.lane = n → a.cause = c →
      (a.state = .raised →
        s.clearSource n c = (s.putEntry i { generation := (s.entry i).generation + 1, call := none }).place) ∧
      (a.state = .taken → s.clearSource n c = s.putCall i { a with state := .satisfied }) ∧
      (a.state = .satisfied → s.clearSource n c = s)) ∧
    ((∀ i : SlotId, ∀ a, s.callAt i = some a → ¬(a.lane = n ∧ a.cause = c)) →
      s.clearSource n c = s.putMarker n
        (if c = .restock then { s.marker n with restock := false } else { s.marker n with fault := false }))

/-- R135: placement fills the lowest free entries from the markers in the placement order (most urgent class, lower lane, FAULT
before RESTOCK before WATCH) until no marker is set or no entry is free; each placed call is raised as R126 lays down, in the class
its marker carried, and its marker is cleared; every other entry and marker stands. -/
def Obligations.PlacementFillsFreeEntries : Prop :=
  ∀ s : State, MarkerSourceLaw s → PlacedFrom s s.place

/-! ### Classes (chapter 9) -/

/-- R161 to R164. SET_CLASS writes the four fields (escalate after taken up to 15), sets NEW_CALL when it unmasks a class that
holds a RAISED call, and with apply now loads the aging timer of every RAISED call of the class; a class above 7 and a code that
is neither yes nor no are refused. GET_CLASS reports the record and the counts of the calls it governs, and changes nothing. That
the count of timers loaded takes in the calls of a class whose renotify period is 0 is the model's reading (log entry 21). -/
def Obligations.ClassRequestsReadAndWriteRecords : Prop :=
  (∀ (s : State) (h : Header) (k : ClassId) (masked now : Bool) (renotify limit : Nat) (esc : Byte), Hears s h →
    s.store.save ≠ .saving → renotify < 65536 → limit < 65536 →
    ∃ t, exec (.setClass h ([w8 k, flag masked] ++ w16 renotify ++ [esc] ++ w16 limit ++ [flag now])) s =
        .next (answered s t h 72 .ok
          ([w8 k, flag masked] ++ w16 renotify ++ [w8 (min 15 esc.toNat)] ++ w16 limit ++
            [w8 (if now then callsWith s fun a => a.state == .raised && a.cls == k else 0)])) ∧
      t = { s with
        calls := t.calls
        classes := s.classes.set k.val { masked := masked, renotify := renotify, escalateAfter := min 15 esc.toNat,
                                         serviceLimit := limit } k.isLt
        attention := { s.attention with
          newCall := s.attention.newCall || ((s.cls k).masked && !masked &&
            decide (∃ i : SlotId, (s.callAt i).any fun a => a.state == .raised && a.cls == k)) } } ∧
      ∀ i : SlotId, (t.entry i).generation = (s.entry i).generation ∧
        t.callAt i = (s.callAt i).map fun a =>
          if now = true ∧ a.state = .raised ∧ a.cls = k then
            { a with aging := if renotify = 0 then none else some renotify }
          else a) ∧
  (∀ (s : State) (h : Header) (b mask r1 r0 esc l1 l0 now : Byte), Hears s h → s.store.save ≠ .saving →
    (7 < b.toNat ∨ 1 < mask.toNat ∨ 1 < now.toNat) →
    exec (.setClass h [b, mask, r1, r0, esc, l1, l0, now]) s = refused s h 72 .badValue) ∧
  (∀ (s : State) (h : Header) (b : Byte), Hears s h → 7 < b.toNat → exec (.getClass h [b]) s = refused s h 73 .badValue) ∧
  ∀ (s : State) (h : Header) (k : ClassId), Hears s h →
    exec (.getClass h [w8 k]) s =
      .next (answered s s h 73 .ok
        ([w8 k, flag (s.cls k).masked] ++ w16 (s.cls k).renotify ++ [w8 (s.cls k).escalateAfter] ++ w16 (s.cls k).serviceLimit ++
          [w8 (callsWith s fun a => a.cls == k && a.state == .raised), w8 (callsWith s fun a => a.cls == k && a.state == .taken),
            w8 (callsWith s fun a => a.cls == k && a.state == .taken && a.overdue),
            w8 (callsWith s fun a => a.cls == k && a.state == .satisfied),
            w8 (callsWith s fun a => a.cls == k && a.state == .raised && a.aging.isNone)]))

/-! ### Bays (chapter 10) -/

/-- R172, R180 to R184. SET_BAY writes the three settings, clamped, and leaves the key IDLE unless it stays enabled; SET_LAMP sets
or clears the override; SET_PATTERN writes an entry, the period clamped to 1–100 and the on time to the period; GET_BAY reports
one bay and the pattern table and changes nothing. A bay above 5, a pattern above 4 and a code that names no value are refused. -/
def Obligations.BayRequestsReadAndWriteBays : Prop :=
  (∀ (s : State) (h : Header) (b : BayId), Hears s h →
    let r := s.bay b
    (∀ (enabled : Bool) (window long : Nat), s.store.save ≠ .saving → window < 65536 → long < 65536 →
      exec (.setBay h ([w8 b, flag enabled] ++ w16 window ++ w16 long)) s =
        .next (answered s
          (s.putBay b { r with
            settings := { keyEnabled := enabled, windowLength := max 10 (min 36000 window), longPress := max 5 (min 100 long) }
            key := if r.settings.keyEnabled = true ∧ enabled = true then r.key
              else { state := .idle, hold := 0, longDone := false } })
          h 80 .ok ([w8 b, flag enabled] ++ w16 (max 10 (min 36000 window)) ++ w16 (max 5 (min 100 long))))) ∧
    exec (.getBay h [w8 b]) s =
      .next (answered s s h 81 .ok
        ([w8 b, flag r.settings.keyEnabled] ++ w16 r.settings.windowLength ++ w16 r.settings.longPress ++
          [flag r.window.isSome] ++ w16 (r.window.getD 0) ++ [w8 r.key.state.code, w8 r.key.hold, flag r.key.longDone] ++
          [match r.forced with | some o => w8 o.display.code | none => 7] ++
          w16 ((r.forced.bind LampOverride.remaining).getD 0) ++ [w8 r.selected.code, w8 r.phase, litCode r.lit] ++
          (List.finRange 5).flatMap fun i => [w8 s.patterns[i].period, w8 s.patterns[i].onTime, flag s.patterns[i].startOn])) ∧
    (∀ (d : Display) (ticks : Nat), ticks < 65536 →
      exec (.setLamp h ([w8 b, w8 d.code] ++ w16 ticks)) s =
        .next (answered s
          (s.putBay b { r with
            forced := some { display := d, remaining := if ticks = 0 then none else some (min 6000 ticks) } })
          h 84 .ok ([w8 b, w8 d.code] ++ w16 (min 6000 ticks)))) ∧
    ∀ t1 t0 : Byte, exec (.setLamp h [w8 b, 7, t1, t0]) s =
      .next (answered s (s.putBay b { r with forced := none }) h 84 .ok [w8 b, 7, 0, 0])) ∧
  (∀ (s : State) (h : Header) (i : PatternId) (period on : Byte) (start : Bool), Hears s h → s.store.save ≠ .saving →
    let taken := max 1 (min 100 period.toNat)
    exec (.setPattern h [w8 i, period, on, flag start]) s =
      .next (answered s
        { s with patterns := s.patterns.set i.val { period := taken, onTime := min taken on.toNat, startOn := start } i.isLt }
        h 85 .ok [w8 i, w8 taken, w8 (min taken on.toNat), flag start])) ∧
  ∀ (s : State) (h : Header) (b c x1 x2 x3 x4 : Byte), Hears s h →
    (5 < b.toNat → exec (.getBay h [b]) s = refused s h 81 .badValue ∧
      exec (.setLamp h [b, c, x1, x2]) s = refused s h 84 .badValue) ∧
    (7 < c.toNat → exec (.setLamp h [b, c, x1, x2]) s = refused s h 84 .badValue) ∧
    (s.store.save ≠ .saving →
      (5 < b.toNat ∨ 1 < c.toNat → exec (.setBay h [b, c, x1, x2, x3, x4]) s = refused s h 80 .badValue) ∧
      (4 < b.toNat ∨ 1 < c.toNat → exec (.setPattern h [b, x1, x2, c]) s = refused s h 85 .badValue))

/-- R173 to R175: OPEN_WINDOW opens or reloads the window for the length it carries, clamped to 10–36,000, or for the bay's window
length; CLOSE_WINDOW closes an open one, setting carry-over on each lane of the bay that is MOVING, and reports how many lanes
newly carry it; on a closed window it changes nothing. A bay above 5 is refused (R182). The outcome byte, opened 0 and reloaded 1,
and the one byte of the number of lanes are the model's readings (log entries 11 and 28). -/
def Obligations.WindowRequestsOpenAndClose : Prop :=
  (∀ (s : State) (h : Header) (b : BayId), Hears s h →
    let r := s.bay b
    exec (.openWindow h [w8 b]) s =
      .next (answered s (s.putBay b { r with window := some r.settings.windowLength }) h 82 .ok
        ([w8 b, flag r.window.isSome] ++ w16 r.settings.windowLength)) ∧
    (∀ ticks : Nat, ticks < 65536 →
      exec (.openWindow h (w8 b :: w16 ticks)) s =
        .next (answered s (s.putBay b { r with window := some (max 10 (min 36000 ticks)) }) h 82 .ok
          ([w8 b, flag r.window.isSome] ++ w16 (max 10 (min 36000 ticks))))) ∧
    (r.window = none → exec (.closeWindow h [w8 b]) s = .next (answered s s h 83 .ok [w8 b, 0, 0])) ∧
    (r.window ≠ none →
      ∃ t, exec (.closeWindow h [w8 b]) s =
          .next (answered s t h 83 .ok [w8 b, 1, w8 ((List.finRange 48).countP fun n =>
            (s.lane n).binding.bay == b && (s.lane n).state == .moving && !(s.lane n).committed.carryOver)]) ∧
        t = { s with lanes := t.lanes, bays := s.bays.set b.val { r with window := none } b.isLt } ∧
        ∀ n : LaneId, t.lane n =
          if (s.lane n).binding.bay = b ∧ (s.lane n).state = .moving then
            { s.lane n with committed := { (s.lane n).committed with carryOver := true } }
          else s.lane n)) ∧
  ∀ (s : State) (h : Header) (b t1 t0 : Byte), Hears s h → 5 < b.toNat →
    exec (.openWindow h [b]) s = refused s h 82 .badValue ∧ exec (.openWindow h [b, t1, t0]) s = refused s h 82 .badValue ∧
    exec (.closeWindow h [b]) s = refused s h 83 .badValue

/-! ### Time (chapters 5, 9 and 10) -/

/-- R152 to R158, at a tick. The tick counter advances. The aging timer of a RAISED call of an unmasked class counts down; at its
expiry the nag count rises (up to 15), the call escalates one class when the escalate after of its class is reached, the timer is
loaded from the class it now holds, and RENOTIFY is set. The service timer of a TAKEN call counts down; at its expiry the call is
overdue and OVERDUE is set. Frozen, stopped and absent timers and every other field of the calls stand, and so do the link, the
store, the scanner, the journal, the rules, the markers, the classes and the patterns. RENOTIFY_EXPIRY and SERVICE_EXPIRY name such
a tick (log entry 6). -/
def Obligations.TicksRunTheCallTimers : Prop :=
  ∀ (s : State) (ti : TickInput), s.operating = true →
    ∃ t, exec (.tick ti) s = .next t ∧
      t = { s with
        tick := s.tick + 1, lanes := t.lanes, captures := t.captures, calls := t.calls, bays := t.bays
        attention := { s.attention with renotify := t.attention.renotify, overdue := t.attention.overdue } } ∧
      (∀ i : SlotId, (t.entry i).generation = (s.entry i).generation ∧ (s.callAt i = none → t.callAt i = none) ∧
        ∀ a, s.callAt i = some a →
          (a.state = .raised → (a.aging = none ∨ (s.cls a.cls).masked = true) → t.callAt i = some a) ∧
          (∀ v, a.state = .raised → (s.cls a.cls).masked = false → a.aging = some (v + 2) →
            t.callAt i = some { a with aging := some (v + 1) }) ∧
          (a.state = .raised → (s.cls a.cls).masked = false → a.aging = some 1 →
            exec (.renotifyExpiry i ti) s = .next t ∧
            ∃ b : Call, t.callAt i = some { a with cls := b.cls, nag := b.nag, aging := b.aging } ∧
              (0 < (s.cls a.cls).escalateAfter ∧ (s.cls a.cls).escalateAfter ≤ min 15 (a.nag + 1) →
                b.cls.val = a.cls.val - 1 ∧ b.nag = 0) ∧
              (¬(0 < (s.cls a.cls).escalateAfter ∧ (s.cls a.cls).escalateAfter ≤ min 15 (a.nag + 1)) →
                b.cls = a.cls ∧ b.nag = min 15 (a.nag + 1)) ∧
              b.aging = if (s.cls b.cls).renotify = 0 then none else some (s.cls b.cls).renotify) ∧
          (∀ v, a.state = .taken → a.service = some (v + 2) → t.callAt i = some { a with service := some (v + 1) }) ∧
          (a.state = .taken → a.service = some 1 →
            exec (.serviceExpiry i ti) s = .next t ∧ t.callAt i = some { a with overdue := true, service := some 0 }) ∧
          (a.state = .taken → (a.service = none ∨ a.service = some 0) → t.callAt i = some a) ∧
          (a.state = .satisfied → t.callAt i = some a)) ∧
      ((∀ i : SlotId, ∀ a, s.callAt i = some a → a.aging ≠ some 0) →
        (t.attention.renotify = true ↔ s.attention.renotify = true ∨
          ∃ i : SlotId, ∃ a, s.callAt i = some a ∧ a.state = .raised ∧ (s.cls a.cls).masked = false ∧ a.aging = some 1)) ∧
      (t.attention.overdue = true ↔ s.attention.overdue = true ∨
        ∃ i : SlotId, ∃ a, s.callAt i = some a ∧ a.state = .taken ∧ a.service = some 1)

/-- R86, at a tick: the timeout of every RUNNING slot counts down by 1. One that reaches 0 frees its slot, and its lane leaves
CAPTURE for MOVING with calm count 0 and outcome TIMEOUT; the rest of its record stands, carry-over aside (R174). Every other lane
keeps all but carry-over. CAPTURE_TIMEOUT names such a tick (log entry 6). -/
def Obligations.TicksRunTheCaptureTimeouts : Prop :=
  ∀ (s : State) (ti : TickInput), s.operating = true → CaptureLaw s →
    ∃ t, exec (.tick ti) s = .next t ∧
      (∀ i : CaptureId, s.capture i = none → t.capture i = none) ∧
      (∀ i : CaptureId, ∀ c, s.capture i = some c →
        (∀ v, c.remaining = v + 2 → t.capture i = some { c with remaining := v + 1 }) ∧
        (c.remaining = 1 → t.capture i = none ∧ exec (.captureTimeout i ti) s = .next t ∧
          t.lane c.lane = { s.lane c.lane with
            state := .moving
            work := { (s.lane c.lane).work with calm := 0 }
            outcome := .timeout
            committed := { (s.lane c.lane).committed with carryOver := (t.lane c.lane).committed.carryOver } })) ∧
      ∀ n : LaneId, (∀ i : CaptureId, ∀ c, s.capture i = some c → c.lane = n → 2 ≤ c.remaining) →
        t.lane n = { s.lane n with
          committed := { (s.lane n).committed with carryOver := (t.lane n).committed.carryOver } }

/-- R169 to R174, at a tick, bay by bay. The window counts down and closes at 0. A key sample moves the key as R170 lays down; the
hold that reaches the long-press length is a long press and closes an open window; a release is a short press, which opens or
reloads the window, unless the press was long. Every closing sets carry-over on the lanes of the bay that are MOVING.
WINDOW_EXPIRY, KEY_PRESS, LONG_PRESS and KEY_RELEASE name such a tick (log entry 6). Whether a closing sees a lane before or after
the captures' own tick is the operand's choice (log entry 5). -/
def Obligations.TicksRunWindowsAndKeys : Prop :=
  ∀ (s : State) (ti : TickInput), s.operating = true →
    ∃ t, exec (.tick ti) s = .next t ∧
      ∀ b : BayId,
        let r := s.bay b
        let k := r.key
        let down := ti.keysDown.getLsbD b
        let counted : Option Nat := match r.window with
          | some (v + 2) => some (v + 1)
          | _ => none
        let long : Prop := r.settings.keyEnabled = true ∧ down = true ∧ (k.state = .down ∨ k.state = .lettingGo) ∧
          k.longDone = false ∧ k.hold < 100 ∧ r.settings.longPress ≤ k.hold + 1
        let released : Prop := r.settings.keyEnabled = true ∧ down = false ∧ k.state = .lettingGo
        (t.bay b).settings = r.settings ∧
        (r.window = some 1 → exec (.windowExpiry b ti) s = .next t) ∧
        (r.settings.keyEnabled = false → (t.bay b).key = k) ∧
        (r.settings.keyEnabled = true →
          (k.state = .idle → (t.bay b).key = if down then { k with state := .arming } else k) ∧
          (k.state = .arming → down = false → (t.bay b).key = { k with state := .idle }) ∧
          (k.state = .arming → down = true →
            exec (.keyPress b ti) s = .next t ∧ (t.bay b).key = { state := .down, hold := 0, longDone := false }) ∧
          (k.state = .down → down = false → (t.bay b).key = { k with state := .lettingGo })) ∧
        (r.settings.keyEnabled = true → down = true → (k.state = .down ∨ k.state = .lettingGo) → k.hold ≤ 100 → ¬long →
          (t.bay b).key = { k with state := .down, hold := min 100 (k.hold + 1) }) ∧
        (long → exec (.longPress b ti) s = .next t ∧ (t.bay b).key = { state := .down, hold := k.hold + 1, longDone := true } ∧
          (t.bay b).window = none) ∧
        (released → exec (.keyRelease b ti) s = .next t ∧ (t.bay b).key = { state := .idle, hold := 0, longDone := false } ∧
          (t.bay b).window = if k.longDone then counted else some r.settings.windowLength) ∧
        (¬long → ¬released → (t.bay b).window = counted) ∧
        ∀ n : LaneId, (s.lane n).binding.bay = b →
          ((t.lane n).committed.carryOver = true ↔ (s.lane n).committed.carryOver = true ∨
            ((r.window = some 0 ∨ r.window = some 1 ∨ (long ∧ counted ≠ none)) ∧
              (if ti.baysBeforeCaptures then (s.lane n).state else (t.lane n).state) = .moving))

/-- R177, R179 and R181, at a tick: each bay's display is the first line of R177 that applies, read from its override, its window as
the countdown and the key left it, and the calls of its lanes; the phase starts at 0 on a change and steps modulo the pattern's
period otherwise; the lamp is lit as the pattern says; a timed override counts down and clears at 0. The calls are read before or
after their own tick, as the operand says (log entry 5). OVERRIDE_EXPIRY names the tick of a clearing (log entry 6). -/
def Obligations.TicksSelectTheLamps : Prop :=
  ∀ (s : State) (ti : TickInput), s.operating = true →
    ∃ t, exec (.tick ti) s = .next t ∧
      ∀ b : BayId,
        let q := if ti.baysBeforeCalls then s else t
        let r := s.bay b
        let d := (t.bay b).selected
        let isFault : Prop := BayCall q b fun c => c.cause = .fault
        let isUrgent : Prop := BayCall q b fun c => (c.state = .raised ∧ (s.cls c.cls).masked = false ∧ c.cls ≤ s.device.urgentLimit) ∨
          (c.state = .taken ∧ c.overdue = true)
        let isOpen : Prop := (t.bay b).window ≠ none
        let isWaiting : Prop := BayCall q b fun c => c.state = .raised ∧ (s.cls c.cls).masked = false
        let isTaken : Prop := BayCall q b fun c => c.state = .taken ∨ c.state = .satisfied
        (∀ o, r.forced = some o → d = o.display) ∧
        (r.forced = none →
          (isFault → d = .fault) ∧ (¬isFault → isUrgent → d = .urgent) ∧
          (¬isFault → ¬isUrgent → isOpen → d = .window) ∧
          (¬isFault → ¬isUrgent → ¬isOpen → isWaiting → d = .call) ∧
          (¬isFault → ¬isUrgent → ¬isOpen → ¬isWaiting → isTaken → d = .taken) ∧
          (¬isFault → ¬isUrgent → ¬isOpen → ¬isWaiting → ¬isTaken → d = .dark)) ∧
        (d = .dark → (t.bay b).phase = 0 ∧ (t.bay b).lit = false) ∧
        (d = .steady → (t.bay b).phase = 0 ∧ (t.bay b).lit = true) ∧
        (∀ p : PatternId, d = [Display.fault, .urgent, .window, .call, .taken][p] →
          (t.bay b).phase = (if d = r.selected then (r.phase + 1) % s.patterns[p].period else 0) ∧
          ((t.bay b).lit = true ↔
            if s.patterns[p].startOn then (t.bay b).phase < s.patterns[p].onTime
            else s.patterns[p].period - s.patterns[p].onTime ≤ (t.bay b).phase)) ∧
        (r.forced = none → (t.bay b).forced = none) ∧
        ∀ o, r.forced = some o →
          (o.remaining = none → (t.bay b).forced = some o) ∧
          (∀ v, o.remaining = some (v + 2) → (t.bay b).forced = some { o with remaining := some (v + 1) }) ∧
          (o.remaining = some 1 → (t.bay b).forced = none ∧ exec (.overrideExpiry b ti) s = .next t)

/-! ### Readings (chapters 2, 3, 4 and 5) -/

/-- R26 to R29 and R31: a conversion goes to the lane under visit and to no other. A lane that is MOVING or in CAPTURE after its
first conversion gets a second at once; otherwise the next visit is to the lowest bound lane above it, or else to the lowest bound
lane; with no lane bound the scanner is IDLE. A conversion that meets an OFF lane is discarded, and an IDLE scanner takes none.
The link, the store, the bays, the classes and the settings stand. That a lane unbound under visit and bound again takes the
conversion of that visit is the model's choice (log entry 26). -/
def Obligations.RoundsVisitTheBoundLanes : Prop :=
  ∀ (s : State) (rd : Reading), s.operating = true →
    (s.scan = none → exec (.conversion rd) s = .next s) ∧
    ∀ p, s.scan = some p →
      ∃ t, exec (.conversion rd) s = .next t ∧
        t = { s with
          scan := t.scan, lanes := t.lanes, captures := t.captures, journal := t.journal, holds := t.holds, rules := t.rules
          calls := t.calls, markers := t.markers
          attention := { s.attention with newCall := t.attention.newCall, journal := t.attention.journal
                                          held := t.attention.held, fault := t.attention.fault } } ∧
        (∀ n : LaneId, n ≠ p.lane → t.lane n = s.lane n ∧ t.held n = s.held n) ∧
        ((s.lane p.lane).state = .off → t = { s with scan := t.scan }) ∧
        let again : Prop := p.second = false ∧ ((t.lane p.lane).state = .moving ∨ (t.lane p.lane).state = .capture)
        (again → t.scan = some { lane := p.lane, second := true }) ∧
        (¬again → ∀ n : LaneId, (t.lane n).state ≠ .off →
          (p.lane < n → (∀ m : LaneId, p.lane < m → m < n → (t.lane m).state = .off) →
            t.scan = some { lane := n, second := false }) ∧
          ((∀ m : LaneId, p.lane < m → (t.lane m).state = .off) → (∀ m : LaneId, m < n → (t.lane m).state = .off) →
            t.scan = some { lane := n, second := false })) ∧
        ((∀ n : LaneId, (t.lane n).state = .off) → t.scan = none)

/-- R35 to R44 on a NORMAL conversion that a MOVING or STABLE lane takes without a plateau: the filter restarts beyond the jump or
steps toward the reading, the calm test counts, and the net, the count and its firmness are computed; a STABLE lane whose calm count
is 0 enters MOVING; the committed values, the calls and the journal stand. -/
def Obligations.NormalConversionsFollowTheLoad : Prop :=
  ∀ (s : State) (n : LaneId) (rd : Reading) (r f : Int) (calm : Nat), Visits s n → NormalReading rd r →
    (s.lane n).state = .moving ∨ (s.lane n).state = .stable → FilterOf (s.lane n) r f calm →
    ((s.lane n).state = .moving → calm < (s.lane n).weighing.settle ∨ (s.lane n).weighing.jump < |r - (s.lane n).work.filtered|) →
    ∃ (t : State) (net : Int) (count : Nat) (firm : Bool), exec (.conversion rd) s = .next t ∧
      EstimateOf f (s.lane n).calibration.working (s.lane n).calibration.gain (s.lane n).binding.unitMass
        (s.lane n).binding.tolerance net count firm ∧
      t = { s.putLane n { s.lane n with
          state := if calm = 0 then .moving else (s.lane n).state
          work := { (s.lane n).work with filtered := f, calm := calm, abnormalRun := 0, net := net, count := count, firm := firm } }
        with scan := t.scan }

/-- R49 to R51 and R88. An abnormal conversion in MOVING, STABLE or CAPTURE sets the calm count to 0, adds to the abnormal run and
takes a STABLE lane to MOVING; the third in a row is FAULT_ENTRY: the lane enters FAULT with that reason, stale set and the
recovery run 0, a capture of it is aborted, the FAULT attention reason is set, and its FAULT source is asserted. In FAULT an
abnormal conversion restarts the recovery run and changes the reason. Everything else stands. That the row FAULT_ENTRY is the
whole conversion is the model's reading (log entry 6). -/
def Obligations.AbnormalConversionsBringFault : Prop :=
  ∀ (s : State) (n : LaneId) (rd : Reading) (why : FaultReason), Visits s n → (s.lane n).work.abnormalRun ≤ 3 →
    (why = .noResponse ∧ rd.lowCurrent = true ∨
      why = .clipped ∧ rd.lowCurrent = false ∧ (rd.raw.toInt = -8388608 ∨ rd.raw.toInt = 8388607)) →
    let l := s.lane n
    (l.state = .moving ∨ l.state = .stable ∨ l.state = .capture → l.work.abnormalRun < 2 →
      ∃ t, exec (.conversion rd) s = .next t ∧
        t = { s.putLane n { l with
            state := if l.state = .stable then .moving else l.state
            work := { l.work with calm := 0, abnormalRun := l.work.abnormalRun + 1 } } with scan := t.scan }) ∧
    (l.state = .moving ∨ l.state = .stable ∨ l.state = .capture → 2 ≤ l.work.abnormalRun →
      let work : Working := { l.work with calm := 0, abnormalRun := 3, recoveryRun := 0, faultReason := why, stale := true }
      ∃ t u, exec (.conversion rd) s = .next t ∧ exec (.faultEntry rd) s = .next t ∧
        t = { (State.assertSource { u with attention := { u.attention with fault := true } } n .fault s.device.faultClass) with
          scan := t.scan } ∧
        ((∀ i : CaptureId, ∀ c, s.capture i = some c → c.lane ≠ n) → u = s.putLane n { l with state := .fault, work := work }) ∧
        ∀ i : CaptureId, ∀ c, s.capture i = some c → c.lane = n → (∀ j d, s.capture j = some d → d.lane = n → j = i) →
          u = (s.putCapture i none).putLane n { l with state := .fault, work := work, outcome := .abortedFault }) ∧
    (l.state = .fault →
      ∃ t, exec (.conversion rd) s = .next t ∧
        t = { s.putLane n { l with
            work := { l.work with recoveryRun := 0, abnormalRun := min 3 (l.work.abnormalRun + 1), faultReason := why } }
          with scan := t.scan })

/-- R51 and R52: in FAULT a NORMAL conversion adds to the recovery run and resets the abnormal run; the eighth in a row is
FAULT_RECOVERY: the lane enters MOVING with F the reading, calm count and runs 0, stale and the reason cleared, the current values
recomputed and recount due set; its FAULT source clears unless drift is set. Everything else stands. That the row FAULT_RECOVERY
is the whole conversion is the model's reading (log entry 6). -/
def Obligations.FaultRecoversAtTheEighth : Prop :=
  ∀ (s : State) (n : LaneId) (rd : Reading) (r : Int), Visits s n → NormalReading rd r → (s.lane n).state = .fault →
    let l := s.lane n
    (l.work.recoveryRun < 7 →
      ∃ t, exec (.conversion rd) s = .next t ∧
        t = { s.putLane n { l with work := { l.work with recoveryRun := l.work.recoveryRun + 1, abnormalRun := 0 } }
          with scan := t.scan }) ∧
    (7 ≤ l.work.recoveryRun →
      ∃ (t u : State) (net : Int) (count : Nat) (firm : Bool),
        exec (.conversion rd) s = .next t ∧ exec (.faultRecovery rd) s = .next t ∧
        EstimateOf r l.calibration.working l.calibration.gain l.binding.unitMass l.binding.tolerance net count firm ∧
        u = s.putLane n { l with
          state := .moving
          work := { l.work with filtered := r, calm := 0, abnormalRun := 0, recoveryRun := 0, faultReason := .none, stale := false
                                net := net, count := count, firm := firm }
          committed := { l.committed with recountDue := true } } ∧
        t = { (if l.work.drift then u else u.clearSource n .fault) with scan := t.scan })

/-- R67 and R72: the level by the committed count, the marks and the level before, with the law that the table keeps; and what
each change of level hands to the call controller: an assertion in the low or the empty class, a clearance, or nothing (that a
change from EMPTY to LOW offers nothing to an existing call is read from R72 and R128, log entry 14). -/
def Obligations.LevelsFollowTheMarks : Prop :=
  (∀ (count low clear : Nat) (before : Level), low < clear →
    (count = 0 → levelOf count low clear before = .empty) ∧
    (1 ≤ count → count ≤ low → levelOf count low clear before = .low) ∧
    (low < count → count < clear →
      levelOf count low clear before = if before = .none ∨ before = .ok then .ok else .low) ∧
    (0 < count → clear ≤ count → levelOf count low clear before = .ok) ∧
    levelOf count low clear before ≠ .none ∧ (levelOf count low clear before = .empty ↔ count = 0) ∧
    (levelOf count low clear before = .low → count < clear) ∧ (levelOf count low clear before = .ok → low < count)) ∧
  ∀ (s : State) (n : LaneId) (before : Level),
    (before = .none ∨ before = .ok →
      s.handLevel n before .low = s.assertSource n .restock (s.lane n).binding.lowClass ∧
      s.handLevel n before .empty = s.assertSource n .restock (s.lane n).binding.emptyClass ∧
      s.handLevel n before .ok = s) ∧
    s.handLevel n .low .empty = s.assertSource n .restock (s.lane n).binding.emptyClass ∧
    ((∃ i : SlotId, ∃ a, s.callAt i = some a ∧ a.lane = n ∧ a.cause = .restock) → s.handLevel n .empty .low = s) ∧
    ((∀ i : SlotId, ∀ a, s.callAt i = some a → ¬(a.lane = n ∧ a.cause = .restock)) →
      s.handLevel n .empty .low = s.assertSource n .restock (s.lane n).binding.lowClass) ∧
    s.handLevel n .low .ok = s.clearSource n .restock ∧ s.handLevel n .empty .ok = s.clearSource n .restock ∧
    s.handLevel n before before = s

/-- R38, R46, R47 and R55 to R63. A NORMAL conversion that leaves the calm count of a MOVING lane at S or above, without a restart
of the filter, is its PLATEAU: the lane is STABLE with its current values computed. Suspended, it commits nothing. A baseline
adopts the current values with the level from scratch, clears its flags, hands the level on and sweeps the lane when the level was
NONE. An ordinary plateau commits, and when the count changed forms a movement of the kind of R63 that goes to the watch unit and
then to the journal, before the level. Zero tracking follows on an empty firm lane: Z moves toward F by at most the track step, or
to the end of its range with drift set, and a change of drift is handed on. That the row PLATEAU is the whole conversion is the
model's reading (log entry 6). -/
def Obligations.PlateausCommit : Prop :=
  ∀ (s : State) (n : LaneId) (rd : Reading) (r f : Int) (calm : Nat), Visits s n → NormalReading rd r →
    (s.lane n).state = .moving → FilterOf (s.lane n) r f calm → |r - (s.lane n).work.filtered| ≤ (s.lane n).weighing.jump →
    (s.lane n).weighing.settle ≤ calm →
    let old := s.lane n
    ∃ (t u : State) (l : Lane) (net : Int) (count : Nat) (firm : Bool),
      exec (.conversion rd) s = .next t ∧ exec (.plateau rd) s = .next t ∧
      EstimateOf f old.calibration.working old.calibration.gain old.binding.unitMass old.binding.tolerance net count firm ∧
      l = { old with
        state := .stable
        work := { old.work with filtered := f, calm := calm, abnormalRun := 0, net := net, count := count, firm := firm } } ∧
      (old.binding.suspended = true → t = { s.putLane n l with scan := t.scan }) ∧
      (old.binding.suspended = false →
        (old.binding.baselineNeeded = true →
          let lv := levelOf count old.binding.lowMark old.binding.clearMark .none
          let v := (s.putLane n { l with
            binding := { l.binding with baselineNeeded := false }
            committed := { count := count, net := net, firm := firm, level := lv, carryOver := false
                           recountDue := false } }).handLevel n old.committed.level lv
          u = if old.committed.level = .none then v.sweep [n] else v) ∧
        (old.binding.baselineNeeded = false →
          let lv := levelOf count old.binding.lowMark old.binding.clearMark old.committed.level
          let v := s.putLane n { l with
            committed := { count := count, net := net, firm := firm, level := lv, carryOver := false, recountDue := false } }
          (count = old.committed.count → u = v.handLevel n old.committed.level lv) ∧
          (count ≠ old.committed.count →
            let m : Movement :=
              { tick := s.tick, lane := n, before := old.committed.count, after := count, delta := net - old.committed.net
                loose := !firm, merged := false, contributors := 1
                kind := if old.committed.recountDue then .recount
                  else if count < old.committed.count then .withdraw
                  else if (s.bay old.binding.bay).window ≠ none ∨ old.committed.carryOver = true then .replenish
                  else .giveBack }
            u = ((v.watchEvaluate m).journalEntry m).handLevel n old.committed.level lv)) ∧
        let z := old.calibration.working
        let z0 := old.calibration.zero
        let limit := (old.weighing.trackLimit : Int)
        let z' := if z < f then z + min (f - z) old.weighing.trackStep else z - min (z - f) old.weighing.trackStep
        let tracking : Prop := count = 0 ∧ firm = true ∧ 0 < old.weighing.trackStep
        (¬tracking → t = { u with scan := t.scan }) ∧
        (tracking → ∃ (zero : Int) (drift : Bool),
          (z = f → zero = z ∧ drift = false) ∧
          (z ≠ f → z0 - limit ≤ z' → z' ≤ z0 + limit → zero = z' ∧ drift = false) ∧
          (z ≠ f → (z' < z0 - limit ∨ z0 + limit < z') → zero = (if z < f then z0 + limit else z0 - limit) ∧ drift = true) ∧
          let w := u.putLane n { u.lane n with
            calibration := { old.calibration with working := zero }
            work := { (u.lane n).work with drift := drift } }
          t = { (if drift = old.work.drift then w
              else if drift = true then w.assertSource n .fault s.device.faultClass else w.clearSource n .fault) with
            scan := t.scan }))

/-- R81 to R85, on a NORMAL conversion in CAPTURE: the first restarts the filter without a calm test; a later one runs the filter
and the calm test, and completes the capture when the calm count stands at max(S, 16) or above: the slot is freed and the lane is
STABLE. CAPTURE_COMPLETE names that conversion. A zero capture puts Z0 and Z on F, clears drift (its FAULT source then clears) and
sets baseline needed; a span sets G, or is REJECTED and leaves it. Net and estimate are not computed. That the row
CAPTURE_COMPLETE is the whole conversion is the model's reading (log entry 6). -/
def Obligations.CapturesSettleAndComplete : Prop :=
  ∀ (s : State) (n : LaneId) (i : CaptureId) (c : Capture) (rd : Reading) (r f : Int) (calm : Nat), Visits s n →
    NormalReading rd r → (s.lane n).state = .capture → s.capture i = some c → c.lane = n →
    (∀ j d, s.capture j = some d → d.lane = n → j = i) → FilterOf (s.lane n) r f calm →
    let l := s.lane n
    ∃ t, exec (.conversion rd) s = .next t ∧
      (c.restartPending = true →
        t = { (s.putCapture i (some { c with restartPending := false })).putLane n
            { l with work := { l.work with filtered := r, calm := 0, abnormalRun := 0 } } with scan := t.scan }) ∧
      (c.restartPending = false →
        let work : Working := { l.work with filtered := f, calm := calm, abnormalRun := 0 }
        (calm < max l.weighing.settle 16 → t = { s.putLane n { l with work := work } with scan := t.scan }) ∧
        (max l.weighing.settle 16 ≤ calm →
          exec (.captureComplete rd) s = .next t ∧
          (c.kind = .zero →
            let u := (s.putCapture i none).putLane n { l with
              state := .stable, outcome := .done
              work := { work with drift := false }
              calibration := { l.calibration with zero := f, working := f }
              binding := { l.binding with baselineNeeded := true } }
            t = { (if l.work.drift then u.clearSource n .fault else u) with scan := t.scan }) ∧
          (c.kind = .span →
            let e := f - l.calibration.zero
            let g := ((c.testMass : Int) * 65536 + e / 2) / e
            ∃ done : Bool, (done = true ↔ 1000 ≤ e ∧ 1 ≤ g ∧ g ≤ 4194304) ∧
              t = { (s.putCapture i none).putLane n { l with
                  state := .stable, outcome := if done then .done else .rejected
                  work := work
                  calibration := { l.calibration with gain := if done then g.toNat else l.calibration.gain } }
                with scan := t.scan })))

/-! ### Invariants that every step keeps -/

/-- The part right after reset meets every law. That this is a part with a bad checksum in its store, five open straps, the supply
up and RESET_N high is the model's choice (log entries 1, 2 and 3). -/
def Obligations.ResetMeetsTheLaws : Prop :=
  CallTableLaw State.reset ∧ JournalLaw State.reset ∧ RecordsLaw State.reset ∧ ReplyLaw State.reset ∧ SaveLaw State.reset ∧
    QuietLanes State.reset ∧ OffLaw State.reset ∧ CaptureLaw State.reset ∧ ZeroLaw State.reset ∧ LevelLaw State.reset ∧
    ImageLaw State.reset ∧ CallSourceLaw State.reset ∧ MarkerSourceLaw State.reset

/-- R126 and R134: no step makes two calls with the same lane and cause, or leaves a marker set while an entry is free or while the
lane has a call of that cause. -/
def Obligations.StepsKeepTheCallTable : Prop :=
  ∀ s t : State, CallTableLaw s → step s = .next t → CallTableLaw t

/-- R93 and R98: the journal never holds more than 128 records, a hold slot is occupied only while it holds 128, and every record
keeps the relations between its kind and its counts. R186 and R196: a reply is in transmission exactly while the receiver is
REPLYING, and a copy is held exactly while a save runs. -/
def Obligations.StepsKeepJournalLinkAndStore : Prop :=
  ∀ s t : State, step s = .next t →
    (JournalLaw s → RecordsLaw s → JournalLaw t ∧ RecordsLaw t) ∧ (ReplyLaw s → ReplyLaw t) ∧ (SaveLaw s → SaveLaw t)

/-- R1, R7, R77 and R144: an OFF lane holds its factory defaults and has no call, marker or held record, a suspended lane has no
RAISED call and no marker, and a lane is in CAPTURE exactly while one slot runs for it. -/
def Obligations.StepsKeepTheLaneStanding : Prop :=
  ∀ s t : State, step s = .next t →
    (QuietLanes s → QuietLanes t) ∧ (JournalLaw s → OffLaw s → OffLaw t) ∧ (CaptureLaw s → CaptureLaw t)

/-- R3, R67 and R68: the working zero lies within the calibrated zero plus or minus the track limit, the level agrees with the
committed count and the marks, and a level NONE comes with baseline needed; the marks of a stored image are in order. -/
def Obligations.StepsKeepZeroAndLevel : Prop :=
  ∀ s t : State, step s = .next t → (ZeroLaw s → ZeroLaw t) ∧ (LevelLaw s → ImageLaw s → LevelLaw t ∧ ImageLaw t)

/-- R129, R131 and R134: a RESTOCK or FAULT call is RAISED or TAKEN only while its source is asserted and SATISFIED only while it is
clear, a WATCH call is never SATISFIED, and a RESTOCK or FAULT marker is set only while its source is asserted. -/
def Obligations.StepsKeepCallsWithTheirSources : Prop :=
  ∀ s t : State, CallTableLaw s → QuietLanes s → OffLaw s → CaptureLaw s → LevelLaw s → CallSourceLaw s → MarkerSourceLaw s →
    step s = .next t → CallSourceLaw t ∧ MarkerSourceLaw t

/-- R125, R128 and R156: while a call lives in its entry (the generation has not advanced), its class never becomes less urgent, and
its lane, its cause and, once raised, its raise tick stay the same. -/
def Obligations.CallsNeverBecomeLessUrgent : Prop :=
  ∀ s t : State, step s = .next t → ∀ i : SlotId, ∀ a b, s.callAt i = some a → t.callAt i = some b →
    (t.entry i).generation = (s.entry i).generation →
    b.cls ≤ a.cls ∧ b.lane = a.lane ∧ b.cause = a.cause ∧ b.raiseTick = a.raiseTick
end

