-- ==== Sys2Proof/Laws/State.lean ====
section
/-! SUPPORT. One lemma per field per update of the state, and the readers over the writers: no later proof unfolds a record
update. -/

namespace Sys2Proof.Machine

variable (s : State)

/-! ### `putLane` -/

@[simp] theorem State.putLane_power (n : LaneId) (l : Lane) : (s.putLane n l).power = s.power := rfl
@[simp] theorem State.putLane_link (n : LaneId) (l : Lane) : (s.putLane n l).link = s.link := rfl
@[simp] theorem State.putLane_attention (n : LaneId) (l : Lane) : (s.putLane n l).attention = s.attention := rfl
@[simp] theorem State.putLane_device (n : LaneId) (l : Lane) : (s.putLane n l).device = s.device := rfl
@[simp] theorem State.putLane_store (n : LaneId) (l : Lane) : (s.putLane n l).store = s.store := rfl
@[simp] theorem State.putLane_tick (n : LaneId) (l : Lane) : (s.putLane n l).tick = s.tick := rfl
@[simp] theorem State.putLane_scan (n : LaneId) (l : Lane) : (s.putLane n l).scan = s.scan := rfl
@[simp] theorem State.putLane_captures (n : LaneId) (l : Lane) : (s.putLane n l).captures = s.captures := rfl
@[simp] theorem State.putLane_journal (n : LaneId) (l : Lane) : (s.putLane n l).journal = s.journal := rfl
@[simp] theorem State.putLane_holds (n : LaneId) (l : Lane) : (s.putLane n l).holds = s.holds := rfl
@[simp] theorem State.putLane_rules (n : LaneId) (l : Lane) : (s.putLane n l).rules = s.rules := rfl
@[simp] theorem State.putLane_calls (n : LaneId) (l : Lane) : (s.putLane n l).calls = s.calls := rfl
@[simp] theorem State.putLane_markers (n : LaneId) (l : Lane) : (s.putLane n l).markers = s.markers := rfl
@[simp] theorem State.putLane_classes (n : LaneId) (l : Lane) : (s.putLane n l).classes = s.classes := rfl
@[simp] theorem State.putLane_bays (n : LaneId) (l : Lane) : (s.putLane n l).bays = s.bays := rfl
@[simp] theorem State.putLane_patterns (n : LaneId) (l : Lane) : (s.putLane n l).patterns = s.patterns := rfl
@[simp] theorem State.putLane_pending (n : LaneId) (l : Lane) : (s.putLane n l).pending = s.pending := rfl

/-! ### `putHeld` -/

@[simp] theorem State.putHeld_power (n : LaneId) (m : Option Movement) : (s.putHeld n m).power = s.power := rfl
@[simp] theorem State.putHeld_link (n : LaneId) (m : Option Movement) : (s.putHeld n m).link = s.link := rfl
@[simp] theorem State.putHeld_attention (n : LaneId) (m : Option Movement) : (s.putHeld n m).attention = s.attention := rfl
@[simp] theorem State.putHeld_device (n : LaneId) (m : Option Movement) : (s.putHeld n m).device = s.device := rfl
@[simp] theorem State.putHeld_store (n : LaneId) (m : Option Movement) : (s.putHeld n m).store = s.store := rfl
@[simp] theorem State.putHeld_tick (n : LaneId) (m : Option Movement) : (s.putHeld n m).tick = s.tick := rfl
@[simp] theorem State.putHeld_scan (n : LaneId) (m : Option Movement) : (s.putHeld n m).scan = s.scan := rfl
@[simp] theorem State.putHeld_lanes (n : LaneId) (m : Option Movement) : (s.putHeld n m).lanes = s.lanes := rfl
@[simp] theorem State.putHeld_captures (n : LaneId) (m : Option Movement) : (s.putHeld n m).captures = s.captures := rfl
@[simp] theorem State.putHeld_journal (n : LaneId) (m : Option Movement) : (s.putHeld n m).journal = s.journal := rfl
@[simp] theorem State.putHeld_rules (n : LaneId) (m : Option Movement) : (s.putHeld n m).rules = s.rules := rfl
@[simp] theorem State.putHeld_calls (n : LaneId) (m : Option Movement) : (s.putHeld n m).calls = s.calls := rfl
@[simp] theorem State.putHeld_markers (n : LaneId) (m : Option Movement) : (s.putHeld n m).markers = s.markers := rfl
@[simp] theorem State.putHeld_classes (n : LaneId) (m : Option Movement) : (s.putHeld n m).classes = s.classes := rfl
@[simp] theorem State.putHeld_bays (n : LaneId) (m : Option Movement) : (s.putHeld n m).bays = s.bays := rfl
@[simp] theorem State.putHeld_patterns (n : LaneId) (m : Option Movement) : (s.putHeld n m).patterns = s.patterns := rfl
@[simp] theorem State.putHeld_pending (n : LaneId) (m : Option Movement) : (s.putHeld n m).pending = s.pending := rfl

/-! ### `putCapture` -/

@[simp] theorem State.putCapture_power (i : CaptureId) (c : Option Capture) : (s.putCapture i c).power = s.power := rfl
@[simp] theorem State.putCapture_link (i : CaptureId) (c : Option Capture) : (s.putCapture i c).link = s.link := rfl
@[simp] theorem State.putCapture_attention (i : CaptureId) (c : Option Capture) : (s.putCapture i c).attention = s.attention := rfl
@[simp] theorem State.putCapture_device (i : CaptureId) (c : Option Capture) : (s.putCapture i c).device = s.device := rfl
@[simp] theorem State.putCapture_store (i : CaptureId) (c : Option Capture) : (s.putCapture i c).store = s.store := rfl
@[simp] theorem State.putCapture_tick (i : CaptureId) (c : Option Capture) : (s.putCapture i c).tick = s.tick := rfl
@[simp] theorem State.putCapture_scan (i : CaptureId) (c : Option Capture) : (s.putCapture i c).scan = s.scan := rfl
@[simp] theorem State.putCapture_lanes (i : CaptureId) (c : Option Capture) : (s.putCapture i c).lanes = s.lanes := rfl
@[simp] theorem State.putCapture_journal (i : CaptureId) (c : Option Capture) : (s.putCapture i c).journal = s.journal := rfl
@[simp] theorem State.putCapture_holds (i : CaptureId) (c : Option Capture) : (s.putCapture i c).holds = s.holds := rfl
@[simp] theorem State.putCapture_rules (i : CaptureId) (c : Option Capture) : (s.putCapture i c).rules = s.rules := rfl
@[simp] theorem State.putCapture_calls (i : CaptureId) (c : Option Capture) : (s.putCapture i c).calls = s.calls := rfl
@[simp] theorem State.putCapture_markers (i : CaptureId) (c : Option Capture) : (s.putCapture i c).markers = s.markers := rfl
@[simp] theorem State.putCapture_classes (i : CaptureId) (c : Option Capture) : (s.putCapture i c).classes = s.classes := rfl
@[simp] theorem State.putCapture_bays (i : CaptureId) (c : Option Capture) : (s.putCapture i c).bays = s.bays := rfl
@[simp] theorem State.putCapture_patterns (i : CaptureId) (c : Option Capture) : (s.putCapture i c).patterns = s.patterns := rfl
@[simp] theorem State.putCapture_pending (i : CaptureId) (c : Option Capture) : (s.putCapture i c).pending = s.pending := rfl

/-! ### `putEntry` -/

@[simp] theorem State.putEntry_power (i : SlotId) (e : CallEntry) : (s.putEntry i e).power = s.power := rfl
@[simp] theorem State.putEntry_link (i : SlotId) (e : CallEntry) : (s.putEntry i e).link = s.link := rfl
@[simp] theorem State.putEntry_attention (i : SlotId) (e : CallEntry) : (s.putEntry i e).attention = s.attention := rfl
@[simp] theorem State.putEntry_device (i : SlotId) (e : CallEntry) : (s.putEntry i e).device = s.device := rfl
@[simp] theorem State.putEntry_store (i : SlotId) (e : CallEntry) : (s.putEntry i e).store = s.store := rfl
@[simp] theorem State.putEntry_tick (i : SlotId) (e : CallEntry) : (s.putEntry i e).tick = s.tick := rfl
@[simp] theorem State.putEntry_scan (i : SlotId) (e : CallEntry) : (s.putEntry i e).scan = s.scan := rfl
@[simp] theorem State.putEntry_lanes (i : SlotId) (e : CallEntry) : (s.putEntry i e).lanes = s.lanes := rfl
@[simp] theorem State.putEntry_captures (i : SlotId) (e : CallEntry) : (s.putEntry i e).captures = s.captures := rfl
@[simp] theorem State.putEntry_journal (i : SlotId) (e : CallEntry) : (s.putEntry i e).journal = s.journal := rfl
@[simp] theorem State.putEntry_holds (i : SlotId) (e : CallEntry) : (s.putEntry i e).holds = s.holds := rfl
@[simp] theorem State.putEntry_rules (i : SlotId) (e : CallEntry) : (s.putEntry i e).rules = s.rules := rfl
@[simp] theorem State.putEntry_markers (i : SlotId) (e : CallEntry) : (s.putEntry i e).markers = s.markers := rfl
@[simp] theorem State.putEntry_classes (i : SlotId) (e : CallEntry) : (s.putEntry i e).classes = s.classes := rfl
@[simp] theorem State.putEntry_bays (i : SlotId) (e : CallEntry) : (s.putEntry i e).bays = s.bays := rfl
@[simp] theorem State.putEntry_patterns (i : SlotId) (e : CallEntry) : (s.putEntry i e).patterns = s.patterns := rfl
@[simp] theorem State.putEntry_pending (i : SlotId) (e : CallEntry) : (s.putEntry i e).pending = s.pending := rfl

/-! ### `putCall` -/

@[simp] theorem State.putCall_power (i : SlotId) (c : Call) : (s.putCall i c).power = s.power := rfl
@[simp] theorem State.putCall_link (i : SlotId) (c : Call) : (s.putCall i c).link = s.link := rfl
@[simp] theorem State.putCall_attention (i : SlotId) (c : Call) : (s.putCall i c).attention = s.attention := rfl
@[simp] theorem State.putCall_device (i : SlotId) (c : Call) : (s.putCall i c).device = s.device := rfl
@[simp] theorem State.putCall_store (i : SlotId) (c : Call) : (s.putCall i c).store = s.store := rfl
@[simp] theorem State.putCall_tick (i : SlotId) (c : Call) : (s.putCall i c).tick = s.tick := rfl
@[simp] theorem State.putCall_scan (i : SlotId) (c : Call) : (s.putCall i c).scan = s.scan := rfl
@[simp] theorem State.putCall_lanes (i : SlotId) (c : Call) : (s.putCall i c).lanes = s.lanes := rfl
@[simp] theorem State.putCall_captures (i : SlotId) (c : Call) : (s.putCall i c).captures = s.captures := rfl
@[simp] theorem State.putCall_journal (i : SlotId) (c : Call) : (s.putCall i c).journal = s.journal := rfl
@[simp] theorem State.putCall_holds (i : SlotId) (c : Call) : (s.putCall i c).holds = s.holds := rfl
@[simp] theorem State.putCall_rules (i : SlotId) (c : Call) : (s.putCall i c).rules = s.rules := rfl
@[simp] theorem State.putCall_markers (i : SlotId) (c : Call) : (s.putCall i c).markers = s.markers := rfl
@[simp] theorem State.putCall_classes (i : SlotId) (c : Call) : (s.putCall i c).classes = s.classes := rfl
@[simp] theorem State.putCall_bays (i : SlotId) (c : Call) : (s.putCall i c).bays = s.bays := rfl
@[simp] theorem State.putCall_patterns (i : SlotId) (c : Call) : (s.putCall i c).patterns = s.patterns := rfl
@[simp] theorem State.putCall_pending (i : SlotId) (c : Call) : (s.putCall i c).pending = s.pending := rfl

/-! ### `putMarker` -/

@[simp] theorem State.putMarker_power (n : LaneId) (m : Markers) : (s.putMarker n m).power = s.power := rfl
@[simp] theorem State.putMarker_link (n : LaneId) (m : Markers) : (s.putMarker n m).link = s.link := rfl
@[simp] theorem State.putMarker_attention (n : LaneId) (m : Markers) : (s.putMarker n m).attention = s.attention := rfl
@[simp] theorem State.putMarker_device (n : LaneId) (m : Markers) : (s.putMarker n m).device = s.device := rfl
@[simp] theorem State.putMarker_store (n : LaneId) (m : Markers) : (s.putMarker n m).store = s.store := rfl
@[simp] theorem State.putMarker_tick (n : LaneId) (m : Markers) : (s.putMarker n m).tick = s.tick := rfl
@[simp] theorem State.putMarker_scan (n : LaneId) (m : Markers) : (s.putMarker n m).scan = s.scan := rfl
@[simp] theorem State.putMarker_lanes (n : LaneId) (m : Markers) : (s.putMarker n m).lanes = s.lanes := rfl
@[simp] theorem State.putMarker_captures (n : LaneId) (m : Markers) : (s.putMarker n m).captures = s.captures := rfl
@[simp] theorem State.putMarker_journal (n : LaneId) (m : Markers) : (s.putMarker n m).journal = s.journal := rfl
@[simp] theorem State.putMarker_holds (n : LaneId) (m : Markers) : (s.putMarker n m).holds = s.holds := rfl
@[simp] theorem State.putMarker_rules (n : LaneId) (m : Markers) : (s.putMarker n m).rules = s.rules := rfl
@[simp] theorem State.putMarker_calls (n : LaneId) (m : Markers) : (s.putMarker n m).calls = s.calls := rfl
@[simp] theorem State.putMarker_classes (n : LaneId) (m : Markers) : (s.putMarker n m).classes = s.classes := rfl
@[simp] theorem State.putMarker_bays (n : LaneId) (m : Markers) : (s.putMarker n m).bays = s.bays := rfl
@[simp] theorem State.putMarker_patterns (n : LaneId) (m : Markers) : (s.putMarker n m).patterns = s.patterns := rfl
@[simp] theorem State.putMarker_pending (n : LaneId) (m : Markers) : (s.putMarker n m).pending = s.pending := rfl

/-! ### `putBay` -/

@[simp] theorem State.putBay_power (b : BayId) (r : Bay) : (s.putBay b r).power = s.power := rfl
@[simp] theorem State.putBay_link (b : BayId) (r : Bay) : (s.putBay b r).link = s.link := rfl
@[simp] theorem State.putBay_attention (b : BayId) (r : Bay) : (s.putBay b r).attention = s.attention := rfl
@[simp] theorem State.putBay_device (b : BayId) (r : Bay) : (s.putBay b r).device = s.device := rfl
@[simp] theorem State.putBay_store (b : BayId) (r : Bay) : (s.putBay b r).store = s.store := rfl
@[simp] theorem State.putBay_tick (b : BayId) (r : Bay) : (s.putBay b r).tick = s.tick := rfl
@[simp] theorem State.putBay_scan (b : BayId) (r : Bay) : (s.putBay b r).scan = s.scan := rfl
@[simp] theorem State.putBay_lanes (b : BayId) (r : Bay) : (s.putBay b r).lanes = s.lanes := rfl
@[simp] theorem State.putBay_captures (b : BayId) (r : Bay) : (s.putBay b r).captures = s.captures := rfl
@[simp] theorem State.putBay_journal (b : BayId) (r : Bay) : (s.putBay b r).journal = s.journal := rfl
@[simp] theorem State.putBay_holds (b : BayId) (r : Bay) : (s.putBay b r).holds = s.holds := rfl
@[simp] theorem State.putBay_rules (b : BayId) (r : Bay) : (s.putBay b r).rules = s.rules := rfl
@[simp] theorem State.putBay_calls (b : BayId) (r : Bay) : (s.putBay b r).calls = s.calls := rfl
@[simp] theorem State.putBay_markers (b : BayId) (r : Bay) : (s.putBay b r).markers = s.markers := rfl
@[simp] theorem State.putBay_classes (b : BayId) (r : Bay) : (s.putBay b r).classes = s.classes := rfl
@[simp] theorem State.putBay_patterns (b : BayId) (r : Bay) : (s.putBay b r).patterns = s.patterns := rfl
@[simp] theorem State.putBay_pending (b : BayId) (r : Bay) : (s.putBay b r).pending = s.pending := rfl

/-! ### `setReceiver` -/

@[simp] theorem State.setReceiver_power (r : Receiver) : (s.setReceiver r).power = s.power := rfl
@[simp] theorem State.setReceiver_attention (r : Receiver) : (s.setReceiver r).attention = s.attention := rfl
@[simp] theorem State.setReceiver_device (r : Receiver) : (s.setReceiver r).device = s.device := rfl
@[simp] theorem State.setReceiver_store (r : Receiver) : (s.setReceiver r).store = s.store := rfl
@[simp] theorem State.setReceiver_tick (r : Receiver) : (s.setReceiver r).tick = s.tick := rfl
@[simp] theorem State.setReceiver_scan (r : Receiver) : (s.setReceiver r).scan = s.scan := rfl
@[simp] theorem State.setReceiver_lanes (r : Receiver) : (s.setReceiver r).lanes = s.lanes := rfl
@[simp] theorem State.setReceiver_captures (r : Receiver) : (s.setReceiver r).captures = s.captures := rfl
@[simp] theorem State.setReceiver_journal (r : Receiver) : (s.setReceiver r).journal = s.journal := rfl
@[simp] theorem State.setReceiver_holds (r : Receiver) : (s.setReceiver r).holds = s.holds := rfl
@[simp] theorem State.setReceiver_rules (r : Receiver) : (s.setReceiver r).rules = s.rules := rfl
@[simp] theorem State.setReceiver_calls (r : Receiver) : (s.setReceiver r).calls = s.calls := rfl
@[simp] theorem State.setReceiver_markers (r : Receiver) : (s.setReceiver r).markers = s.markers := rfl
@[simp] theorem State.setReceiver_classes (r : Receiver) : (s.setReceiver r).classes = s.classes := rfl
@[simp] theorem State.setReceiver_bays (r : Receiver) : (s.setReceiver r).bays = s.bays := rfl
@[simp] theorem State.setReceiver_patterns (r : Receiver) : (s.setReceiver r).patterns = s.patterns := rfl
@[simp] theorem State.setReceiver_pending (r : Receiver) : (s.setReceiver r).pending = s.pending := rfl

/-! ### `notify` -/

@[simp] theorem State.notify_power (f : Attention → Attention) : (s.notify f).power = s.power := rfl
@[simp] theorem State.notify_link (f : Attention → Attention) : (s.notify f).link = s.link := rfl
@[simp] theorem State.notify_device (f : Attention → Attention) : (s.notify f).device = s.device := rfl
@[simp] theorem State.notify_store (f : Attention → Attention) : (s.notify f).store = s.store := rfl
@[simp] theorem State.notify_tick (f : Attention → Attention) : (s.notify f).tick = s.tick := rfl
@[simp] theorem State.notify_scan (f : Attention → Attention) : (s.notify f).scan = s.scan := rfl
@[simp] theorem State.notify_lanes (f : Attention → Attention) : (s.notify f).lanes = s.lanes := rfl
@[simp] theorem State.notify_captures (f : Attention → Attention) : (s.notify f).captures = s.captures := rfl
@[simp] theorem State.notify_journal (f : Attention → Attention) : (s.notify f).journal = s.journal := rfl
@[simp] theorem State.notify_holds (f : Attention → Attention) : (s.notify f).holds = s.holds := rfl
@[simp] theorem State.notify_rules (f : Attention → Attention) : (s.notify f).rules = s.rules := rfl
@[simp] theorem State.notify_calls (f : Attention → Attention) : (s.notify f).calls = s.calls := rfl
@[simp] theorem State.notify_markers (f : Attention → Attention) : (s.notify f).markers = s.markers := rfl
@[simp] theorem State.notify_classes (f : Attention → Attention) : (s.notify f).classes = s.classes := rfl
@[simp] theorem State.notify_bays (f : Attention → Attention) : (s.notify f).bays = s.bays := rfl
@[simp] theorem State.notify_patterns (f : Attention → Attention) : (s.notify f).patterns = s.patterns := rfl
@[simp] theorem State.notify_pending (f : Attention → Attention) : (s.notify f).pending = s.pending := rfl

/-! ### `freeWhere` -/

@[simp] theorem State.freeWhere_power (p : Call → Bool) : (s.freeWhere p).power = s.power := by simp only [State.freeWhere]
@[simp] theorem State.freeWhere_link (p : Call → Bool) : (s.freeWhere p).link = s.link := by simp only [State.freeWhere]
@[simp] theorem State.freeWhere_attention (p : Call → Bool) : (s.freeWhere p).attention = s.attention := by simp only [State.freeWhere]
@[simp] theorem State.freeWhere_device (p : Call → Bool) : (s.freeWhere p).device = s.device := by simp only [State.freeWhere]
@[simp] theorem State.freeWhere_store (p : Call → Bool) : (s.freeWhere p).store = s.store := by simp only [State.freeWhere]
@[simp] theorem State.freeWhere_tick (p : Call → Bool) : (s.freeWhere p).tick = s.tick := by simp only [State.freeWhere]
@[simp] theorem State.freeWhere_scan (p : Call → Bool) : (s.freeWhere p).scan = s.scan := by simp only [State.freeWhere]
@[simp] theorem State.freeWhere_lanes (p : Call → Bool) : (s.freeWhere p).lanes = s.lanes := by simp only [State.freeWhere]
@[simp] theorem State.freeWhere_captures (p : Call → Bool) : (s.freeWhere p).captures = s.captures := by simp only [State.freeWhere]
@[simp] theorem State.freeWhere_journal (p : Call → Bool) : (s.freeWhere p).journal = s.journal := by simp only [State.freeWhere]
@[simp] theorem State.freeWhere_holds (p : Call → Bool) : (s.freeWhere p).holds = s.holds := by simp only [State.freeWhere]
@[simp] theorem State.freeWhere_rules (p : Call → Bool) : (s.freeWhere p).rules = s.rules := by simp only [State.freeWhere]
@[simp] theorem State.freeWhere_markers (p : Call → Bool) : (s.freeWhere p).markers = s.markers := by simp only [State.freeWhere]
@[simp] theorem State.freeWhere_classes (p : Call → Bool) : (s.freeWhere p).classes = s.classes := by simp only [State.freeWhere]
@[simp] theorem State.freeWhere_bays (p : Call → Bool) : (s.freeWhere p).bays = s.bays := by simp only [State.freeWhere]
@[simp] theorem State.freeWhere_patterns (p : Call → Bool) : (s.freeWhere p).patterns = s.patterns := by simp only [State.freeWhere]
@[simp] theorem State.freeWhere_pending (p : Call → Bool) : (s.freeWhere p).pending = s.pending := by simp only [State.freeWhere]

/-! ### `unmark` -/

@[simp] theorem State.unmark_power (n : LaneId) (c : Cause) : (s.unmark n c).power = s.power := rfl
@[simp] theorem State.unmark_link (n : LaneId) (c : Cause) : (s.unmark n c).link = s.link := rfl
@[simp] theorem State.unmark_attention (n : LaneId) (c : Cause) : (s.unmark n c).attention = s.attention := rfl
@[simp] theorem State.unmark_device (n : LaneId) (c : Cause) : (s.unmark n c).device = s.device := rfl
@[simp] theorem State.unmark_store (n : LaneId) (c : Cause) : (s.unmark n c).store = s.store := rfl
@[simp] theorem State.unmark_tick (n : LaneId) (c : Cause) : (s.unmark n c).tick = s.tick := rfl
@[simp] theorem State.unmark_scan (n : LaneId) (c : Cause) : (s.unmark n c).scan = s.scan := rfl
@[simp] theorem State.unmark_lanes (n : LaneId) (c : Cause) : (s.unmark n c).lanes = s.lanes := rfl
@[simp] theorem State.unmark_captures (n : LaneId) (c : Cause) : (s.unmark n c).captures = s.captures := rfl
@[simp] theorem State.unmark_journal (n : LaneId) (c : Cause) : (s.unmark n c).journal = s.journal := rfl
@[simp] theorem State.unmark_holds (n : LaneId) (c : Cause) : (s.unmark n c).holds = s.holds := rfl
@[simp] theorem State.unmark_rules (n : LaneId) (c : Cause) : (s.unmark n c).rules = s.rules := rfl
@[simp] theorem State.unmark_calls (n : LaneId) (c : Cause) : (s.unmark n c).calls = s.calls := rfl
@[simp] theorem State.unmark_classes (n : LaneId) (c : Cause) : (s.unmark n c).classes = s.classes := rfl
@[simp] theorem State.unmark_bays (n : LaneId) (c : Cause) : (s.unmark n c).bays = s.bays := rfl
@[simp] theorem State.unmark_patterns (n : LaneId) (c : Cause) : (s.unmark n c).patterns = s.patterns := rfl
@[simp] theorem State.unmark_pending (n : LaneId) (c : Cause) : (s.unmark n c).pending = s.pending := rfl

/-! ### `mark` -/

@[simp] theorem State.mark_power (n : LaneId) (c : Cause) (k : ClassId) : (s.mark n c k).power = s.power := rfl
@[simp] theorem State.mark_link (n : LaneId) (c : Cause) (k : ClassId) : (s.mark n c k).link = s.link := rfl
@[simp] theorem State.mark_attention (n : LaneId) (c : Cause) (k : ClassId) : (s.mark n c k).attention = s.attention := rfl
@[simp] theorem State.mark_device (n : LaneId) (c : Cause) (k : ClassId) : (s.mark n c k).device = s.device := rfl
@[simp] theorem State.mark_store (n : LaneId) (c : Cause) (k : ClassId) : (s.mark n c k).store = s.store := rfl
@[simp] theorem State.mark_tick (n : LaneId) (c : Cause) (k : ClassId) : (s.mark n c k).tick = s.tick := rfl
@[simp] theorem State.mark_scan (n : LaneId) (c : Cause) (k : ClassId) : (s.mark n c k).scan = s.scan := rfl
@[simp] theorem State.mark_lanes (n : LaneId) (c : Cause) (k : ClassId) : (s.mark n c k).lanes = s.lanes := rfl
@[simp] theorem State.mark_captures (n : LaneId) (c : Cause) (k : ClassId) : (s.mark n c k).captures = s.captures := rfl
@[simp] theorem State.mark_journal (n : LaneId) (c : Cause) (k : ClassId) : (s.mark n c k).journal = s.journal := rfl
@[simp] theorem State.mark_holds (n : LaneId) (c : Cause) (k : ClassId) : (s.mark n c k).holds = s.holds := rfl
@[simp] theorem State.mark_rules (n : LaneId) (c : Cause) (k : ClassId) : (s.mark n c k).rules = s.rules := rfl
@[simp] theorem State.mark_calls (n : LaneId) (c : Cause) (k : ClassId) : (s.mark n c k).calls = s.calls := rfl
@[simp] theorem State.mark_classes (n : LaneId) (c : Cause) (k : ClassId) : (s.mark n c k).classes = s.classes := rfl
@[simp] theorem State.mark_bays (n : LaneId) (c : Cause) (k : ClassId) : (s.mark n c k).bays = s.bays := rfl
@[simp] theorem State.mark_patterns (n : LaneId) (c : Cause) (k : ClassId) : (s.mark n c k).patterns = s.patterns := rfl
@[simp] theorem State.mark_pending (n : LaneId) (c : Cause) (k : ClassId) : (s.mark n c k).pending = s.pending := rfl

/-! ### The readers over `putLane` -/

@[simp] theorem State.held_putLane (n : LaneId) (l : Lane) (j : LaneId) : (s.putLane n l).held j = s.held j := rfl
@[simp] theorem State.capture_putLane (n : LaneId) (l : Lane) (j : CaptureId) : (s.putLane n l).capture j = s.capture j := rfl
@[simp] theorem State.entry_putLane (n : LaneId) (l : Lane) (j : SlotId) : (s.putLane n l).entry j = s.entry j := rfl
@[simp] theorem State.callAt_putLane (n : LaneId) (l : Lane) (j : SlotId) : (s.putLane n l).callAt j = s.callAt j := rfl
@[simp] theorem State.marker_putLane (n : LaneId) (l : Lane) (j : LaneId) : (s.putLane n l).marker j = s.marker j := rfl
@[simp] theorem State.cls_putLane (n : LaneId) (l : Lane) (j : ClassId) : (s.putLane n l).cls j = s.cls j := rfl
@[simp] theorem State.bay_putLane (n : LaneId) (l : Lane) (j : BayId) : (s.putLane n l).bay j = s.bay j := rfl
@[simp] theorem State.rule_putLane (n : LaneId) (l : Lane) (j : RuleId) : (s.putLane n l).rule j = s.rule j := rfl
@[simp] theorem State.operating_putLane (n : LaneId) (l : Lane) : (s.putLane n l).operating = s.operating := rfl
@[simp] theorem State.saving_putLane (n : LaneId) (l : Lane) : (s.putLane n l).saving = s.saving := rfl

/-! ### The readers over `putHeld` -/

@[simp] theorem State.lane_putHeld (n : LaneId) (m : Option Movement) (j : LaneId) : (s.putHeld n m).lane j = s.lane j := rfl
@[simp] theorem State.capture_putHeld (n : LaneId) (m : Option Movement) (j : CaptureId) : (s.putHeld n m).capture j = s.capture j := rfl
@[simp] theorem State.entry_putHeld (n : LaneId) (m : Option Movement) (j : SlotId) : (s.putHeld n m).entry j = s.entry j := rfl
@[simp] theorem State.callAt_putHeld (n : LaneId) (m : Option Movement) (j : SlotId) : (s.putHeld n m).callAt j = s.callAt j := rfl
@[simp] theorem State.marker_putHeld (n : LaneId) (m : Option Movement) (j : LaneId) : (s.putHeld n m).marker j = s.marker j := rfl
@[simp] theorem State.cls_putHeld (n : LaneId) (m : Option Movement) (j : ClassId) : (s.putHeld n m).cls j = s.cls j := rfl
@[simp] theorem State.bay_putHeld (n : LaneId) (m : Option Movement) (j : BayId) : (s.putHeld n m).bay j = s.bay j := rfl
@[simp] theorem State.rule_putHeld (n : LaneId) (m : Option Movement) (j : RuleId) : (s.putHeld n m).rule j = s.rule j := rfl
@[simp] theorem State.operating_putHeld (n : LaneId) (m : Option Movement) : (s.putHeld n m).operating = s.operating := rfl
@[simp] theorem State.saving_putHeld (n : LaneId) (m : Option Movement) : (s.putHeld n m).saving = s.saving := rfl

/-! ### The readers over `putCapture` -/

@[simp] theorem State.lane_putCapture (i : CaptureId) (c : Option Capture) (j : LaneId) : (s.putCapture i c).lane j = s.lane j := rfl
@[simp] theorem State.held_putCapture (i : CaptureId) (c : Option Capture) (j : LaneId) : (s.putCapture i c).held j = s.held j := rfl
@[simp] theorem State.entry_putCapture (i : CaptureId) (c : Option Capture) (j : SlotId) : (s.putCapture i c).entry j = s.entry j := rfl
@[simp] theorem State.callAt_putCapture (i : CaptureId) (c : Option Capture) (j : SlotId) : (s.putCapture i c).callAt j = s.callAt j := rfl
@[simp] theorem State.marker_putCapture (i : CaptureId) (c : Option Capture) (j : LaneId) : (s.putCapture i c).marker j = s.marker j := rfl
@[simp] theorem State.cls_putCapture (i : CaptureId) (c : Option Capture) (j : ClassId) : (s.putCapture i c).cls j = s.cls j := rfl
@[simp] theorem State.bay_putCapture (i : CaptureId) (c : Option Capture) (j : BayId) : (s.putCapture i c).bay j = s.bay j := rfl
@[simp] theorem State.rule_putCapture (i : CaptureId) (c : Option Capture) (j : RuleId) : (s.putCapture i c).rule j = s.rule j := rfl
@[simp] theorem State.operating_putCapture (i : CaptureId) (c : Option Capture) : (s.putCapture i c).operating = s.operating := rfl
@[simp] theorem State.saving_putCapture (i : CaptureId) (c : Option Capture) : (s.putCapture i c).saving = s.saving := rfl

/-! ### The readers over `putEntry` -/

@[simp] theorem State.lane_putEntry (i : SlotId) (e : CallEntry) (j : LaneId) : (s.putEntry i e).lane j = s.lane j := rfl
@[simp] theorem State.held_putEntry (i : SlotId) (e : CallEntry) (j : LaneId) : (s.putEntry i e).held j = s.held j := rfl
@[simp] theorem State.capture_putEntry (i : SlotId) (e : CallEntry) (j : CaptureId) : (s.putEntry i e).capture j = s.capture j := rfl
@[simp] theorem State.marker_putEntry (i : SlotId) (e : CallEntry) (j : LaneId) : (s.putEntry i e).marker j = s.marker j := rfl
@[simp] theorem State.cls_putEntry (i : SlotId) (e : CallEntry) (j : ClassId) : (s.putEntry i e).cls j = s.cls j := rfl
@[simp] theorem State.bay_putEntry (i : SlotId) (e : CallEntry) (j : BayId) : (s.putEntry i e).bay j = s.bay j := rfl
@[simp] theorem State.rule_putEntry (i : SlotId) (e : CallEntry) (j : RuleId) : (s.putEntry i e).rule j = s.rule j := rfl
@[simp] theorem State.operating_putEntry (i : SlotId) (e : CallEntry) : (s.putEntry i e).operating = s.operating := rfl
@[simp] theorem State.saving_putEntry (i : SlotId) (e : CallEntry) : (s.putEntry i e).saving = s.saving := rfl

/-! ### The readers over `putCall` -/

@[simp] theorem State.lane_putCall (i : SlotId) (c : Call) (j : LaneId) : (s.putCall i c).lane j = s.lane j := rfl
@[simp] theorem State.held_putCall (i : SlotId) (c : Call) (j : LaneId) : (s.putCall i c).held j = s.held j := rfl
@[simp] theorem State.capture_putCall (i : SlotId) (c : Call) (j : CaptureId) : (s.putCall i c).capture j = s.capture j := rfl
@[simp] theorem State.marker_putCall (i : SlotId) (c : Call) (j : LaneId) : (s.putCall i c).marker j = s.marker j := rfl
@[simp] theorem State.cls_putCall (i : SlotId) (c : Call) (j : ClassId) : (s.putCall i c).cls j = s.cls j := rfl
@[simp] theorem State.bay_putCall (i : SlotId) (c : Call) (j : BayId) : (s.putCall i c).bay j = s.bay j := rfl
@[simp] theorem State.rule_putCall (i : SlotId) (c : Call) (j : RuleId) : (s.putCall i c).rule j = s.rule j := rfl
@[simp] theorem State.operating_putCall (i : SlotId) (c : Call) : (s.putCall i c).operating = s.operating := rfl
@[simp] theorem State.saving_putCall (i : SlotId) (c : Call) : (s.putCall i c).saving = s.saving := rfl

/-! ### The readers over `putMarker` -/

@[simp] theorem State.lane_putMarker (n : LaneId) (m : Markers) (j : LaneId) : (s.putMarker n m).lane j = s.lane j := rfl
@[simp] theorem State.held_putMarker (n : LaneId) (m : Markers) (j : LaneId) : (s.putMarker n m).held j = s.held j := rfl
@[simp] theorem State.capture_putMarker (n : LaneId) (m : Markers) (j : CaptureId) : (s.putMarker n m).capture j = s.capture j := rfl
@[simp] theorem State.entry_putMarker (n : LaneId) (m : Markers) (j : SlotId) : (s.putMarker n m).entry j = s.entry j := rfl
@[simp] theorem State.callAt_putMarker (n : LaneId) (m : Markers) (j : SlotId) : (s.putMarker n m).callAt j = s.callAt j := rfl
@[simp] theorem State.cls_putMarker (n : LaneId) (m : Markers) (j : ClassId) : (s.putMarker n m).cls j = s.cls j := rfl
@[simp] theorem State.bay_putMarker (n : LaneId) (m : Markers) (j : BayId) : (s.putMarker n m).bay j = s.bay j := rfl
@[simp] theorem State.rule_putMarker (n : LaneId) (m : Markers) (j : RuleId) : (s.putMarker n m).rule j = s.rule j := rfl
@[simp] theorem State.operating_putMarker (n : LaneId) (m : Markers) : (s.putMarker n m).operating = s.operating := rfl
@[simp] theorem State.saving_putMarker (n : LaneId) (m : Markers) : (s.putMarker n m).saving = s.saving := rfl

/-! ### The readers over `putBay` -/

@[simp] theorem State.lane_putBay (b : BayId) (r : Bay) (j : LaneId) : (s.putBay b r).lane j = s.lane j := rfl
@[simp] theorem State.held_putBay (b : BayId) (r : Bay) (j : LaneId) : (s.putBay b r).held j = s.held j := rfl
@[simp] theorem State.capture_putBay (b : BayId) (r : Bay) (j : CaptureId) : (s.putBay b r).capture j = s.capture j := rfl
@[simp] theorem State.entry_putBay (b : BayId) (r : Bay) (j : SlotId) : (s.putBay b r).entry j = s.entry j := rfl
@[simp] theorem State.callAt_putBay (b : BayId) (r : Bay) (j : SlotId) : (s.putBay b r).callAt j = s.callAt j := rfl
@[simp] theorem State.marker_putBay (b : BayId) (r : Bay) (j : LaneId) : (s.putBay b r).marker j = s.marker j := rfl
@[simp] theorem State.cls_putBay (b : BayId) (r : Bay) (j : ClassId) : (s.putBay b r).cls j = s.cls j := rfl
@[simp] theorem State.rule_putBay (b : BayId) (r : Bay) (j : RuleId) : (s.putBay b r).rule j = s.rule j := rfl
@[simp] theorem State.operating_putBay (b : BayId) (r : Bay) : (s.putBay b r).operating = s.operating := rfl
@[simp] theorem State.saving_putBay (b : BayId) (r : Bay) : (s.putBay b r).saving = s.saving := rfl

/-! ### The readers over `setReceiver` -/

@[simp] theorem State.lane_setReceiver (r : Receiver) (j : LaneId) : (s.setReceiver r).lane j = s.lane j := rfl
@[simp] theorem State.held_setReceiver (r : Receiver) (j : LaneId) : (s.setReceiver r).held j = s.held j := rfl
@[simp] theorem State.capture_setReceiver (r : Receiver) (j : CaptureId) : (s.setReceiver r).capture j = s.capture j := rfl
@[simp] theorem State.entry_setReceiver (r : Receiver) (j : SlotId) : (s.setReceiver r).entry j = s.entry j := rfl
@[simp] theorem State.callAt_setReceiver (r : Receiver) (j : SlotId) : (s.setReceiver r).callAt j = s.callAt j := rfl
@[simp] theorem State.marker_setReceiver (r : Receiver) (j : LaneId) : (s.setReceiver r).marker j = s.marker j := rfl
@[simp] theorem State.cls_setReceiver (r : Receiver) (j : ClassId) : (s.setReceiver r).cls j = s.cls j := rfl
@[simp] theorem State.bay_setReceiver (r : Receiver) (j : BayId) : (s.setReceiver r).bay j = s.bay j := rfl
@[simp] theorem State.rule_setReceiver (r : Receiver) (j : RuleId) : (s.setReceiver r).rule j = s.rule j := rfl
@[simp] theorem State.operating_setReceiver (r : Receiver) : (s.setReceiver r).operating = s.operating := rfl
@[simp] theorem State.saving_setReceiver (r : Receiver) : (s.setReceiver r).saving = s.saving := rfl

/-! ### The readers over `notify` -/

@[simp] theorem State.lane_notify (f : Attention → Attention) (j : LaneId) : (s.notify f).lane j = s.lane j := rfl
@[simp] theorem State.held_notify (f : Attention → Attention) (j : LaneId) : (s.notify f).held j = s.held j := rfl
@[simp] theorem State.capture_notify (f : Attention → Attention) (j : CaptureId) : (s.notify f).capture j = s.capture j := rfl
@[simp] theorem State.entry_notify (f : Attention → Attention) (j : SlotId) : (s.notify f).entry j = s.entry j := rfl
@[simp] theorem State.callAt_notify (f : Attention → Attention) (j : SlotId) : (s.notify f).callAt j = s.callAt j := rfl
@[simp] theorem State.marker_notify (f : Attention → Attention) (j : LaneId) : (s.notify f).marker j = s.marker j := rfl
@[simp] theorem State.cls_notify (f : Attention → Attention) (j : ClassId) : (s.notify f).cls j = s.cls j := rfl
@[simp] theorem State.bay_notify (f : Attention → Attention) (j : BayId) : (s.notify f).bay j = s.bay j := rfl
@[simp] theorem State.rule_notify (f : Attention → Attention) (j : RuleId) : (s.notify f).rule j = s.rule j := rfl
@[simp] theorem State.operating_notify (f : Attention → Attention) : (s.notify f).operating = s.operating := rfl
@[simp] theorem State.saving_notify (f : Attention → Attention) : (s.notify f).saving = s.saving := rfl

/-! ### The readers over `freeWhere` -/

@[simp] theorem State.lane_freeWhere (p : Call → Bool) (j : LaneId) : (s.freeWhere p).lane j = s.lane j := by simp only [State.lane, State.freeWhere]
@[simp] theorem State.held_freeWhere (p : Call → Bool) (j : LaneId) : (s.freeWhere p).held j = s.held j := by simp only [State.held, State.freeWhere]
@[simp] theorem State.capture_freeWhere (p : Call → Bool) (j : CaptureId) : (s.freeWhere p).capture j = s.capture j := by simp only [State.capture, State.freeWhere]
@[simp] theorem State.marker_freeWhere (p : Call → Bool) (j : LaneId) : (s.freeWhere p).marker j = s.marker j := by simp only [State.marker, State.freeWhere]
@[simp] theorem State.cls_freeWhere (p : Call → Bool) (j : ClassId) : (s.freeWhere p).cls j = s.cls j := by simp only [State.cls, State.freeWhere]
@[simp] theorem State.bay_freeWhere (p : Call → Bool) (j : BayId) : (s.freeWhere p).bay j = s.bay j := by simp only [State.bay, State.freeWhere]
@[simp] theorem State.rule_freeWhere (p : Call → Bool) (j : RuleId) : (s.freeWhere p).rule j = s.rule j := by simp only [State.rule, State.freeWhere]
@[simp] theorem State.operating_freeWhere (p : Call → Bool) : (s.freeWhere p).operating = s.operating := by simp only [State.operating, State.freeWhere]
@[simp] theorem State.saving_freeWhere (p : Call → Bool) : (s.freeWhere p).saving = s.saving := by simp only [State.saving, State.freeWhere]

/-! ### The readers over `unmark` -/

@[simp] theorem State.lane_unmark (n : LaneId) (c : Cause) (j : LaneId) : (s.unmark n c).lane j = s.lane j := rfl
@[simp] theorem State.held_unmark (n : LaneId) (c : Cause) (j : LaneId) : (s.unmark n c).held j = s.held j := rfl
@[simp] theorem State.capture_unmark (n : LaneId) (c : Cause) (j : CaptureId) : (s.unmark n c).capture j = s.capture j := rfl
@[simp] theorem State.entry_unmark (n : LaneId) (c : Cause) (j : SlotId) : (s.unmark n c).entry j = s.entry j := rfl
@[simp] theorem State.callAt_unmark (n : LaneId) (c : Cause) (j : SlotId) : (s.unmark n c).callAt j = s.callAt j := rfl
@[simp] theorem State.cls_unmark (n : LaneId) (c : Cause) (j : ClassId) : (s.unmark n c).cls j = s.cls j := rfl
@[simp] theorem State.bay_unmark (n : LaneId) (c : Cause) (j : BayId) : (s.unmark n c).bay j = s.bay j := rfl
@[simp] theorem State.rule_unmark (n : LaneId) (c : Cause) (j : RuleId) : (s.unmark n c).rule j = s.rule j := rfl
@[simp] theorem State.operating_unmark (n : LaneId) (c : Cause) : (s.unmark n c).operating = s.operating := rfl
@[simp] theorem State.saving_unmark (n : LaneId) (c : Cause) : (s.unmark n c).saving = s.saving := rfl

/-! ### The readers over `mark` -/

@[simp] theorem State.lane_mark (n : LaneId) (c : Cause) (k : ClassId) (j : LaneId) : (s.mark n c k).lane j = s.lane j := rfl
@[simp] theorem State.held_mark (n : LaneId) (c : Cause) (k : ClassId) (j : LaneId) : (s.mark n c k).held j = s.held j := rfl
@[simp] theorem State.capture_mark (n : LaneId) (c : Cause) (k : ClassId) (j : CaptureId) : (s.mark n c k).capture j = s.capture j := rfl
@[simp] theorem State.entry_mark (n : LaneId) (c : Cause) (k : ClassId) (j : SlotId) : (s.mark n c k).entry j = s.entry j := rfl
@[simp] theorem State.callAt_mark (n : LaneId) (c : Cause) (k : ClassId) (j : SlotId) : (s.mark n c k).callAt j = s.callAt j := rfl
@[simp] theorem State.cls_mark (n : LaneId) (c : Cause) (k : ClassId) (j : ClassId) : (s.mark n c k).cls j = s.cls j := rfl
@[simp] theorem State.bay_mark (n : LaneId) (c : Cause) (k : ClassId) (j : BayId) : (s.mark n c k).bay j = s.bay j := rfl
@[simp] theorem State.rule_mark (n : LaneId) (c : Cause) (k : ClassId) (j : RuleId) : (s.mark n c k).rule j = s.rule j := rfl
@[simp] theorem State.operating_mark (n : LaneId) (c : Cause) (k : ClassId) : (s.mark n c k).operating = s.operating := rfl
@[simp] theorem State.saving_mark (n : LaneId) (c : Cause) (k : ClassId) : (s.mark n c k).saving = s.saving := rfl

/-! ### A reader over its own writer -/

theorem State.lane_putLane (n k : LaneId) (l : Lane) : (s.putLane n l).lane k = if k = n then l else s.lane k := by
  simp only [State.lane, State.putLane, Fin.getElem_fin, Vector.getElem_set, Fin.ext_iff, eq_comm]

@[simp] theorem State.lane_putLane_self (n : LaneId) (l : Lane) : (s.putLane n l).lane n = l := by
  simp [State.lane_putLane]

@[simp] theorem State.lane_putLane_ne (n k : LaneId) (l : Lane) (h : k ≠ n) : (s.putLane n l).lane k = s.lane k := by
  simp [State.lane_putLane, h]

theorem State.held_putHeld (n k : LaneId) (l : Option Movement) : (s.putHeld n l).held k = if k = n then l else s.held k := by
  simp only [State.held, State.putHeld, Fin.getElem_fin, Vector.getElem_set, Fin.ext_iff, eq_comm]

@[simp] theorem State.held_putHeld_self (n : LaneId) (l : Option Movement) : (s.putHeld n l).held n = l := by
  simp [State.held_putHeld]

@[simp] theorem State.held_putHeld_ne (n k : LaneId) (l : Option Movement) (h : k ≠ n) : (s.putHeld n l).held k = s.held k := by
  simp [State.held_putHeld, h]

theorem State.capture_putCapture (n k : CaptureId) (l : Option Capture) : (s.putCapture n l).capture k = if k = n then l else s.capture k := by
  simp only [State.capture, State.putCapture, Fin.getElem_fin, Vector.getElem_set, Fin.ext_iff, eq_comm]

@[simp] theorem State.capture_putCapture_self (n : CaptureId) (l : Option Capture) : (s.putCapture n l).capture n = l := by
  simp [State.capture_putCapture]

@[simp] theorem State.capture_putCapture_ne (n k : CaptureId) (l : Option Capture) (h : k ≠ n) : (s.putCapture n l).capture k = s.capture k := by
  simp [State.capture_putCapture, h]

theorem State.entry_putEntry (n k : SlotId) (l : CallEntry) : (s.putEntry n l).entry k = if k = n then l else s.entry k := by
  simp only [State.entry, State.putEntry, Fin.getElem_fin, Vector.getElem_set, Fin.ext_iff, eq_comm]

@[simp] theorem State.entry_putEntry_self (n : SlotId) (l : CallEntry) : (s.putEntry n l).entry n = l := by
  simp [State.entry_putEntry]

@[simp] theorem State.entry_putEntry_ne (n k : SlotId) (l : CallEntry) (h : k ≠ n) : (s.putEntry n l).entry k = s.entry k := by
  simp [State.entry_putEntry, h]

theorem State.marker_putMarker (n k : LaneId) (l : Markers) : (s.putMarker n l).marker k = if k = n then l else s.marker k := by
  simp only [State.marker, State.putMarker, Fin.getElem_fin, Vector.getElem_set, Fin.ext_iff, eq_comm]

@[simp] theorem State.marker_putMarker_self (n : LaneId) (l : Markers) : (s.putMarker n l).marker n = l := by
  simp [State.marker_putMarker]

@[simp] theorem State.marker_putMarker_ne (n k : LaneId) (l : Markers) (h : k ≠ n) : (s.putMarker n l).marker k = s.marker k := by
  simp [State.marker_putMarker, h]

theorem State.bay_putBay (n k : BayId) (l : Bay) : (s.putBay n l).bay k = if k = n then l else s.bay k := by
  simp only [State.bay, State.putBay, Fin.getElem_fin, Vector.getElem_set, Fin.ext_iff, eq_comm]

@[simp] theorem State.bay_putBay_self (n : BayId) (l : Bay) : (s.putBay n l).bay n = l := by
  simp [State.bay_putBay]

@[simp] theorem State.bay_putBay_ne (n k : BayId) (l : Bay) (h : k ≠ n) : (s.putBay n l).bay k = s.bay k := by
  simp [State.bay_putBay, h]

@[simp] theorem State.setReceiver_receiver (r : Receiver) : (s.setReceiver r).link.receiver = r := rfl

@[simp] theorem State.setReceiver_reply (r : Receiver) : (s.setReceiver r).link.reply = s.link.reply := rfl

@[simp] theorem State.setReceiver_unitAddress (r : Receiver) : (s.setReceiver r).link.unitAddress = s.link.unitAddress := rfl

@[simp] theorem State.setReceiver_lineRate (r : Receiver) : (s.setReceiver r).link.lineRate = s.link.lineRate := rfl

@[simp] theorem State.setReceiver_restartPending (r : Receiver) :
    (s.setReceiver r).link.restartPending = s.link.restartPending := rfl

@[simp] theorem State.notify_attention (f : Attention → Attention) : (s.notify f).attention = f s.attention := rfl

@[simp] theorem State.callAt_putCall_self (i : SlotId) (c : Call) : (s.putCall i c).callAt i = some c := by
  simp [State.callAt, State.putCall]

@[simp] theorem State.callAt_putCall_ne (i k : SlotId) (c : Call) (h : k ≠ i) : (s.putCall i c).callAt k = s.callAt k := by
  simp [State.callAt, State.putCall, h]

/-! ### Tables rewritten whole -/

@[simp] theorem mapTable_get {α β : Type} {n : Nat} (v : Vector α n) (f : Fin n → α → β) (i : Fin n) :
    (mapTable v f)[i] = f i v[i] := by
  simp [mapTable]

@[simp] theorem mapTable_getNat {α β : Type} {n : Nat} (v : Vector α n) (f : Fin n → α → β) (i : Nat) (h : i < n) :
    (mapTable v f)[i] = f ⟨i, h⟩ v[i] := by
  simp [mapTable]

theorem State.entry_freeWhere (p : Call → Bool) (i : SlotId) :
    (s.freeWhere p).entry i =
      match (s.entry i).call with
      | some c => if p c then { generation := (s.entry i).generation + 1, call := none } else s.entry i
      | none => s.entry i := by
  simp only [State.entry, State.freeWhere, Fin.getElem_fin, mapTable_getNat]
  all_goals cases s.calls[i.val].call <;> rfl

theorem State.callAt_freeWhere (p : Call → Bool) (i : SlotId) :
    (s.freeWhere p).callAt i = (s.callAt i).filter fun c => !p c := by
  unfold State.callAt
  rw [State.entry_freeWhere]
  cases h : (s.entry i).call with
  | none => simp [h]
  | some c => by_cases hp : p c <;> simp [h, hp, Option.filter]

end Sys2Proof.Machine
end

