-- ==== Sys2Proof/Laws/Ops.lean ====
section
/-! SUPPORT. What each shared operation can do, said once: the searches over the tables, the link interface's part in a request,
and what the call controller's and the journal's operations leave alone. -/

namespace Sys2Proof.Machine

/-! ### The age of a stored tick (R99, R137, R152) -/

/-- A tick at most 2^31 ticks old is judged at its true age. -/
theorem State.age_of_le {s : State} {t : Tick} (h : (s.tick - t).toNat ≤ 2147483648) : s.age t = (s.tick - t).toNat :=
  if_pos h

/-- A tick older than 2^31 ticks is judged to lie ahead. -/
theorem State.age_of_lt {s : State} {t : Tick} (h : 2147483648 < (s.tick - t).toNat) :
    s.age t = (s.tick - t).toNat - 4294967296 :=
  if_neg (Nat.not_le.mpr h)

/-- Ages are elapsed ticks modulo 2^32. -/
theorem State.age_emod (s : State) (t : Tick) : s.age t % 4294967296 = (s.tick - t).toNat := by
  have : (s.tick - t).toNat < 4294967296 := (s.tick - t).isLt
  rcases Nat.lt_or_ge 2147483648 (s.tick - t).toNat with h | h
  · rw [State.age_of_lt h]; omega
  · rw [State.age_of_le h]; omega

/-- The model's age is the claims'. -/
theorem State.age_eq_judgedAge (s : State) (t : Tick) : s.age t = judgedAge s t := by
  unfold judgedAge
  rcases Nat.lt_or_ge 2147483648 (s.tick - t).toNat with h | h
  · rw [State.age_of_lt h, if_pos h]
  · rw [State.age_of_le h, if_neg (Nat.not_lt.mpr h)]

/-! ### Searches -/

/-- A search over a table's indices finds the lowest index that passes. -/
theorem find_finRange_some {n : Nat} {p : Fin n → Bool} {i : Fin n} (h : (List.finRange n).find? p = some i) :
    p i = true ∧ ∀ j : Fin n, j < i → p j = false := by
  rw [List.find?_eq_some_iff_getElem] at h
  obtain ⟨hp, k, hk, hki, hlt⟩ := h
  refine ⟨hp, fun j hj => ?_⟩
  have e : k = i.val := by have := congrArg Fin.val hki; simpa using this
  have := hlt j.val (by rw [e]; exact hj)
  simpa using this

/-- A search over a table's indices finds nothing exactly when nothing passes. -/
theorem find_finRange_none {n : Nat} {p : Fin n → Bool} :
    (List.finRange n).find? p = none ↔ ∀ i : Fin n, p i = false := by
  simp [List.find?_eq_none]

theorem State.findCall_some {s : State} {n : LaneId} {c : Cause} {i : SlotId} (h : s.findCall n c = some i) :
    ∃ a, s.callAt i = some a ∧ a.lane = n ∧ a.cause = c := by
  have := (find_finRange_some h).1
  unfold State.isCallOf at this
  split at this
  · rename_i a ha
    exact ⟨a, ha, by simpa using this⟩
  · cases this

theorem State.findCall_none {s : State} {n : LaneId} {c : Cause} :
    s.findCall n c = none ↔ ∀ i a, s.callAt i = some a → ¬(a.lane = n ∧ a.cause = c) := by
  unfold State.findCall
  rw [find_finRange_none]
  constructor
  · intro h i a ha
    have := h i
    simp only [State.isCallOf, ha] at this
    simpa using this
  · intro h i
    unfold State.isCallOf
    split
    · rename_i a ha
      simpa using h i a ha
    · rfl

theorem State.freeSlot_some {s : State} {i : SlotId} (h : s.freeSlot = some i) :
    s.callAt i = none ∧ ∀ j, j < i → s.callAt j ≠ none := by
  obtain ⟨h1, h2⟩ := find_finRange_some h
  refine ⟨by simpa using h1, fun j hj => ?_⟩
  have := h2 j hj
  intro e
  simp [e] at this

theorem State.freeSlot_none {s : State} : s.freeSlot = none ↔ ∀ i, s.callAt i ≠ none := by
  unfold State.freeSlot
  rw [find_finRange_none]
  exact forall_congr' fun i => by cases s.callAt i <;> simp

theorem State.captureSlot_some {s : State} {n : LaneId} {i : CaptureId} (h : s.captureSlot n = some i) :
    ∃ c, s.capture i = some c ∧ c.lane = n := by
  have := (find_finRange_some h).1
  unfold State.isCaptureOf at this
  split at this
  · rename_i c hc
    exact ⟨c, hc, by simpa using this⟩
  · cases this

theorem State.captureSlot_none {s : State} {n : LaneId} :
    s.captureSlot n = none ↔ ∀ i c, s.capture i = some c → c.lane ≠ n := by
  unfold State.captureSlot
  rw [find_finRange_none]
  constructor
  · intro h i c hc
    have := h i
    simp only [State.isCaptureOf, hc] at this
    simpa using this
  · intro h i
    unfold State.isCaptureOf
    split
    · rename_i c hc
      simpa using h i c hc
    · rfl

theorem State.freeCapture_some {s : State} {i : CaptureId} (h : s.freeCapture = some i) :
    s.capture i = none ∧ ∀ j, j < i → s.capture j ≠ none := by
  obtain ⟨h1, h2⟩ := find_finRange_some h
  refine ⟨by simpa using h1, fun j hj => ?_⟩
  have := h2 j hj
  intro e
  simp [e] at this

theorem State.freeCapture_none {s : State} : s.freeCapture = none ↔ ∀ i, s.capture i ≠ none := by
  unfold State.freeCapture
  rw [find_finRange_none]
  exact forall_congr' fun i => by cases s.capture i <;> simp

/-! ### Fields of a payload -/

theorem index_lt {n : Nat} {b : Byte} (h : b.toNat < n) : index n b = some ⟨b.toNat, h⟩ := by
  simp [index, h]

theorem index_ge {n : Nat} {b : Byte} (h : n ≤ b.toNat) : index n b = none := by
  simp [index, Nat.not_lt.mpr h]

theorem index_some {n : Nat} {b : Byte} {i : Fin n} : index n b = some i ↔ b.toNat = i.val := by
  unfold index
  split
  · simp [Fin.ext_iff]
  · rename_i h
    constructor
    · simp
    · intro e
      exact absurd (e ▸ i.isLt) h

@[simp] theorem index_w8 {n : Nat} (i : Fin n) (h : n ≤ 256) : index n (w8 i) = some i := by
  rw [index_some, w8, BitVec.toNat_ofNat]
  exact Nat.mod_eq_of_lt (by have := i.isLt; omega)

/-! ### A request at the link interface (R186 to R190) -/

theorem serve_unheard {s : State} (hs : ¬(s.operating = true ∧ s.link.receiver = .ready)) (kind : Nat) (ro : Bool) (h : Header)
    (p : List Byte) (act : State → Served) : serve kind ro h p act s = s := by
  unfold serve
  split
  · rename_i e
    simp only [Bool.and_eq_true, beq_iff_eq] at e
    exact absurd e hs
  · rfl

theorem serve_mine {s : State} {h : Header} (hs : Hears s h) {p : List Byte} (hp : p.length ≤ Config.payloadMax) (kind : Nat)
    (ro : Bool) (act : State → Served) :
    serve kind ro h p act s = (act (s.setReceiver .hunt)).reply h kind := by
  obtain ⟨h1, h2, h3, h4⟩ := hs
  have : s.addressed h = .mine := by
    unfold State.addressed
    rw [if_neg h3, if_pos h4]
  simp [serve, h1, h2, hp, this]

theorem serve_broadcast {s : State} {h : Header} (hs : HearsBroadcast s h) {p : List Byte}
    (hp : p.length ≤ Config.payloadMax) (kind : Nat) (ro : Bool) (act : State → Served) :
    serve kind ro h p act s = if ro then s.setReceiver .hunt else (act (s.setReceiver .hunt)).state := by
  obtain ⟨h1, h2, h3⟩ := hs
  have : s.addressed h = .broadcast := by simp [State.addressed, h3]
  simp [serve, h1, h2, hp, this]

theorem serve_foreign {s : State} {h : Header} (h1 : s.operating = true) (h2 : s.link.receiver = .ready) (h3 : h.address ≠ 0)
    (h4 : h.address ≠ s.link.unitAddress) (p : List Byte) (kind : Nat) (ro : Bool) (act : State → Served) :
    serve kind ro h p act s = s.setReceiver .hunt := by
  have : s.addressed h = .foreign := by
    unfold State.addressed
    rw [if_neg h3, if_neg h4]
  simp [serve, h1, h2, this]

/-- What `serve` can do, said once: nothing, a discarded frame, a broadcast executed, or an execution with its reply. -/
theorem serve_cases (kind : Nat) (ro : Bool) (h : Header) (p : List Byte) (act : State → Served) (s : State) :
    serve kind ro h p act s = s ∨ serve kind ro h p act s = s.setReceiver .hunt ∨
      serve kind ro h p act s = (act (s.setReceiver .hunt)).state ∨
      serve kind ro h p act s = (act (s.setReceiver .hunt)).reply h kind := by
  unfold serve
  split
  · split
    · split
      · simp
      · split <;> simp
      · simp
    · simp
  · simp

/-! ### What the call controller's operations leave alone -/

theorem CallsOnly.refl (s : State) : CallsOnly s s := rfl

theorem CallsOnly.trans {s t u : State} (h : CallsOnly s t) (k : CallsOnly t u) : CallsOnly s u := by
  unfold CallsOnly at *
  rw [k]
  conv_lhs => rw [h]

theorem State.touched_putEntry (s : State) (i : SlotId) (e : CallEntry) : CallsOnly s (s.putEntry i e) := rfl

theorem State.touched_putCall (s : State) (i : SlotId) (c : Call) : CallsOnly s (s.putCall i c) := rfl

theorem State.touched_putMarker (s : State) (n : LaneId) (m : Markers) : CallsOnly s (s.putMarker n m) := rfl

theorem State.touched_mark (s : State) (n : LaneId) (c : Cause) (k : ClassId) : CallsOnly s (s.mark n c k) := rfl

theorem State.touched_unmark (s : State) (n : LaneId) (c : Cause) : CallsOnly s (s.unmark n c) := rfl

theorem State.touched_freeEntry (s : State) (i : SlotId) : CallsOnly s (s.freeEntry i) := rfl

theorem State.touched_freeWhere (s : State) (p : Call → Bool) : CallsOnly s (s.freeWhere p) := by
  simp only [CallsOnly, State.freeWhere]

theorem State.touched_noteNewCall (s : State) (k : ClassId) : CallsOnly s (s.noteNewCall k) := by
  unfold State.noteNewCall
  split <;> rfl

theorem State.touched_raiseAt (s : State) (i : SlotId) (n : LaneId) (c : Cause) (k : ClassId) :
    CallsOnly s (s.raiseAt i n c k) :=
  (s.touched_putCall i _).trans (State.touched_noteNewCall _ k)

theorem State.touched_need (s : State) (n : LaneId) (c : Cause) (k : ClassId) : CallsOnly s (s.need n c k) := by
  unfold State.need
  split
  · exact s.touched_raiseAt _ n c k
  · exact s.touched_mark n c k

theorem State.touched_placeOne {s t : State} (h : s.placeOne = some t) : CallsOnly s t := by
  unfold State.placeOne at h
  split at h
  · split at h
    · cases h
      exact (s.touched_unmark _ _).trans (State.touched_raiseAt _ _ _ _ _)
    · cases h
  · cases h

theorem State.touched_placeUpTo (s : State) (fuel : Nat) : CallsOnly s (s.placeUpTo fuel) := by
  induction fuel generalizing s with
  | zero => exact .refl s
  | succ k ih =>
    unfold State.placeUpTo
    split
    · rename_i t ht
      exact (State.touched_placeOne ht).trans (ih t)
    · exact .refl s

theorem State.touched_place (s : State) : CallsOnly s s.place :=
  s.touched_placeUpTo 32

theorem State.touched_assertSource (s : State) (n : LaneId) (c : Cause) (k : ClassId) :
    CallsOnly s (s.assertSource n c k) := by
  unfold State.assertSource
  split
  · split
    · exact s.touched_putCall _ _
    · exact .refl s
  · split
    · exact s.touched_mark n c k
    · split
      · exact s.touched_need n c k
      · exact .refl s

theorem State.touched_clearSource (s : State) (n : LaneId) (c : Cause) : CallsOnly s (s.clearSource n c) := by
  unfold State.clearSource
  split
  · split
    · split
      · exact (s.touched_freeEntry _).trans (State.touched_place _)
      · exact s.touched_putCall _ _
      · exact .refl s
    · exact .refl s
  · exact s.touched_unmark n c

theorem State.touched_offerClass (s : State) (n : LaneId) (c : Cause) (k : ClassId) : CallsOnly s (s.offerClass n c k) := by
  unfold State.offerClass
  split
  · split
    · exact s.touched_putCall _ _
    · exact .refl s
  · exact .refl s

theorem State.touched_handLevel (s : State) (n : LaneId) (a b : Level) : CallsOnly s (s.handLevel n a b) := by
  unfold State.handLevel
  split
  any_goals exact s.touched_assertSource _ _ _
  any_goals exact s.touched_clearSource _ _
  · split
    · exact .refl s
    · exact s.touched_assertSource _ _ _
  · exact .refl s

theorem State.touched_handFault (s : State) (n : LaneId) (b : Bool) : CallsOnly s (s.handFault n b) := by
  unfold State.handFault
  split
  · split
    · exact .refl s
    · exact s.touched_assertSource _ _ _
  · split
    · exact s.touched_clearSource _ _
    · exact .refl s

theorem State.touched_foldl_need (l : List Need) (s : State) :
    CallsOnly s (l.foldl (fun t x => t.need x.lane x.cause x.cls) s) := by
  induction l generalizing s with
  | nil => exact .refl s
  | cons x xs ih => exact (s.touched_need x.lane x.cause x.cls).trans (ih _)

theorem State.touched_sweep (s : State) (lanes : List LaneId) : CallsOnly s (s.sweep lanes) :=
  State.touched_foldl_need _ s

theorem State.touched_suspendCalls (s : State) (n : LaneId) : CallsOnly s (s.suspendCalls n) := by
  unfold State.suspendCalls
  have h := s.touched_putMarker n Markers.clear
  generalize s.putMarker n Markers.clear = t at h ⊢
  exact (h.trans (t.touched_freeWhere _)).trans (State.touched_place _)

theorem State.touched_unbindCalls (s : State) (n : LaneId) : CallsOnly s (s.unbindCalls n) := by
  unfold State.unbindCalls
  have h := s.touched_putMarker n Markers.clear
  generalize s.putMarker n Markers.clear = t at h ⊢
  exact (h.trans (t.touched_freeWhere _)).trans (State.touched_place _)

theorem State.touched_clearMarkers (s : State) (m : Vector Markers 48) : CallsOnly s { s with markers := m } := rfl

theorem State.touched_clearCalls (s : State) : CallsOnly s s.clearCalls := by
  unfold State.clearCalls
  have h := s.touched_freeWhere fun _ => true
  generalize (s.freeWhere fun _ => true) = t at h ⊢
  exact (h.trans (t.touched_clearMarkers _)).trans (State.touched_sweep _ _)

theorem State.touched_offerFaultClass (s : State) (k : ClassId) : CallsOnly s (s.offerFaultClass k) := by
  simp only [CallsOnly, State.offerFaultClass]

/-! ### What the journal's operations leave alone -/

/-- Everything but the journal, the hold slots, JOURNAL and HELD is the same in `t` as in `s`. -/
abbrev JournalTouched (s t : State) : Prop :=
  t = { s with journal := t.journal, holds := t.holds,
               attention := { s.attention with journal := t.attention.journal, held := t.attention.held } }

theorem JournalTouched.refl (s : State) : JournalTouched s s := rfl

theorem JournalTouched.trans {s t u : State} (h : JournalTouched s t) (k : JournalTouched t u) : JournalTouched s u := by
  unfold JournalTouched at *
  rw [k]
  conv_lhs => rw [h]

theorem State.journal_putHeld (s : State) (n : LaneId) (m : Option Movement) : JournalTouched s (s.putHeld n m) := rfl

theorem State.journal_append (s : State) (m : Movement) : JournalTouched s (s.append m) := by
  unfold State.append State.noteJournalEntry
  split <;> rfl

theorem State.journal_hold (s : State) (m : Movement) : JournalTouched s (s.hold m) := rfl

theorem State.journal_entry (s : State) (m : Movement) : JournalTouched s (s.journalEntry m) := by
  unfold State.journalEntry
  split
  · exact s.journal_append m
  · split
    · exact s.journal_hold m
    · exact s.journal_putHeld _ _

theorem State.journal_drainUpTo (s : State) (fuel : Nat) : JournalTouched s (s.drainUpTo fuel) := by
  induction fuel generalizing s with
  | zero => exact .refl s
  | succ k ih =>
    unfold State.drainUpTo
    split
    · rename_i t ht
      refine JournalTouched.trans ?_ (ih t)
      unfold State.drainOne at ht
      split at ht
      · split at ht
        · cases ht
          exact (s.journal_putHeld _ _).trans (State.journal_append _ _)
        · cases ht
      · cases ht
    · exact .refl s

theorem State.journal_drain (s : State) : JournalTouched s s.drain :=
  s.journal_drainUpTo 48

theorem State.journal_removeHead (s : State) (k : Nat) : JournalTouched s (s.removeHead k) := by
  unfold State.removeHead
  split
  · exact .refl s
  · exact JournalTouched.trans (t := { s with journal := s.journal.drop k }) rfl (State.journal_drain _)

end Sys2Proof.Machine
end

