-- ==== Sys2Proof/Laws/PerInstr.lean ====
section
/-! SUPPORT. Statements about every command as syntax, one lemma per constructor. -/

namespace Sys2Proof.Laws.Framing

/-- A well-formed request is the request that its kind names, its kind marks a request (R187), and its payload fits a frame
(R199). -/
def Statement (i : Instr) : Prop :=
  ∀ h k p, wellFormed i = true → requestParts i = some (h, k, p) →
    requestOf h k p = i ∧ k.toNat < 128 ∧ p.length ≤ Config.payloadMax

/-- A command that is no request has no parts. -/
theorem of_event {i : Instr} (hi : requestParts i = none) : Statement i := by
  intro h k p _ e
  rw [hi] at e
  cases e

/-- A request of the table whose parts are written in `requestParts`. -/
theorem of_request {i : Instr} {h₀ : Header} {k₀ : Byte} {p₀ : List Byte} (hi : requestParts i = some (h₀, k₀, p₀))
    (hr : requestOf h₀ k₀ p₀ = i) (hk : k₀.toNat < 128) (hw : wellFormed i = payloadFits p₀) : Statement i := by
  intro h k p w e
  rw [hi] at e
  cases e
  rw [hw] at w
  exact ⟨hr, hk, by simpa [payloadFits] using w⟩

/-- A kind that names no request of the table is the unknown request's. -/
theorem requestOf_unknown {kind : Byte} (hk : unknownKind kind = true) (h : Header) (p : List Byte) :
    requestOf h kind p = .unknownKindRequest h kind p := by
  unfold requestOf
  split
  all_goals first
    | rfl
    | (rename_i e; simp [unknownKind, requestKinds, e] at hk)

theorem powerOn (x0 : BitVec 5) : Statement (.powerOn x0) :=
  of_event rfl

theorem resetNLow : Statement .resetNLow :=
  of_event rfl

theorem resetNRelease (x0 : BitVec 5) : Statement (.resetNRelease x0) :=
  of_event rfl

theorem lineIdle : Statement .lineIdle :=
  of_event rfl

theorem frameAbandoned (x0 : List Byte) : Statement (.frameAbandoned x0) :=
  of_event rfl

theorem frameDiscarded (x0 : List Byte) : Statement (.frameDiscarded x0) :=
  of_event rfl

theorem unknownKindRequest (x0 : Header) (x1 : Byte) (x2 : List Byte) : Statement (.unknownKindRequest x0 x1 x2) := by
  intro h k p w e
  simp only [requestParts, Option.some.injEq, Prod.mk.injEq] at e
  obtain ⟨rfl, rfl, rfl⟩ := e
  simp only [wellFormed, Bool.and_eq_true] at w
  refine ⟨requestOf_unknown w.1 _ _, ?_, by simpa [payloadFits] using w.2⟩
  have := w.1
  simp only [unknownKind, Bool.and_eq_true, decide_eq_true_eq] at this
  exact this.1

theorem replyComplete : Statement .replyComplete :=
  of_event rfl

theorem identify (x0 : Header) (x1 : List Byte) : Statement (.identify x0 x1) :=
  of_request rfl rfl (by decide) rfl

theorem getStatus (x0 : Header) (x1 : List Byte) : Statement (.getStatus x0 x1) :=
  of_request rfl rfl (by decide) rfl

theorem restart (x0 : Header) (x1 : List Byte) : Statement (.restart x0 x1) :=
  of_request rfl rfl (by decide) rfl

theorem setDevice (x0 : Header) (x1 : List Byte) : Statement (.setDevice x0 x1) :=
  of_request rfl rfl (by decide) rfl

theorem saveSettings (x0 : Header) (x1 : List Byte) : Statement (.saveSettings x0 x1) :=
  of_request rfl rfl (by decide) rfl

theorem saveComplete (x0 : Bool) : Statement (.saveComplete x0) :=
  of_event rfl

theorem laneSummary (x0 : Header) (x1 : List Byte) : Statement (.laneSummary x0 x1) :=
  of_request rfl rfl (by decide) rfl

theorem getLane (x0 : Header) (x1 : List Byte) : Statement (.getLane x0 x1) :=
  of_request rfl rfl (by decide) rfl

theorem bindLane (x0 : Header) (x1 : List Byte) : Statement (.bindLane x0 x1) :=
  of_request rfl rfl (by decide) rfl

theorem unbindLane (x0 : Header) (x1 : List Byte) : Statement (.unbindLane x0 x1) :=
  of_request rfl rfl (by decide) rfl

theorem setLaneWeighing (x0 : Header) (x1 : List Byte) : Statement (.setLaneWeighing x0 x1) :=
  of_request rfl rfl (by decide) rfl

theorem suspendLane (x0 : Header) (x1 : List Byte) : Statement (.suspendLane x0 x1) :=
  of_request rfl rfl (by decide) rfl

theorem resumeLane (x0 : Header) (x1 : List Byte) : Statement (.resumeLane x0 x1) :=
  of_request rfl rfl (by decide) rfl

theorem beginZero (x0 : Header) (x1 : List Byte) : Statement (.beginZero x0 x1) :=
  of_request rfl rfl (by decide) rfl

theorem beginSpan (x0 : Header) (x1 : List Byte) : Statement (.beginSpan x0 x1) :=
  of_request rfl rfl (by decide) rfl

theorem cancelCapture (x0 : Header) (x1 : List Byte) : Statement (.cancelCapture x0 x1) :=
  of_request rfl rfl (by decide) rfl

theorem setCalibration (x0 : Header) (x1 : List Byte) : Statement (.setCalibration x0 x1) :=
  of_request rfl rfl (by decide) rfl

theorem readMoves (x0 : Header) (x1 : List Byte) : Statement (.readMoves x0 x1) :=
  of_request rfl rfl (by decide) rfl

theorem removeMoves (x0 : Header) (x1 : List Byte) : Statement (.removeMoves x0 x1) :=
  of_request rfl rfl (by decide) rfl

theorem clearJournal (x0 : Header) (x1 : List Byte) : Statement (.clearJournal x0 x1) :=
  of_request rfl rfl (by decide) rfl

theorem setWatch (x0 : Header) (x1 : List Byte) : Statement (.setWatch x0 x1) :=
  of_request rfl rfl (by decide) rfl

theorem getWatch (x0 : Header) (x1 : List Byte) : Statement (.getWatch x0 x1) :=
  of_request rfl rfl (by decide) rfl

theorem clearWatchHits (x0 : Header) (x1 : List Byte) : Statement (.clearWatchHits x0 x1) :=
  of_request rfl rfl (by decide) rfl

theorem nextCall (x0 : Header) (x1 : List Byte) : Statement (.nextCall x0 x1) :=
  of_request rfl rfl (by decide) rfl

theorem listCalls (x0 : Header) (x1 : List Byte) : Statement (.listCalls x0 x1) :=
  of_request rfl rfl (by decide) rfl

theorem takeCall (x0 : Header) (x1 : List Byte) : Statement (.takeCall x0 x1) :=
  of_request rfl rfl (by decide) rfl

theorem closeCall (x0 : Header) (x1 : List Byte) : Statement (.closeCall x0 x1) :=
  of_request rfl rfl (by decide) rfl

theorem clearCalls (x0 : Header) (x1 : List Byte) : Statement (.clearCalls x0 x1) :=
  of_request rfl rfl (by decide) rfl

theorem setClass (x0 : Header) (x1 : List Byte) : Statement (.setClass x0 x1) :=
  of_request rfl rfl (by decide) rfl

theorem getClass (x0 : Header) (x1 : List Byte) : Statement (.getClass x0 x1) :=
  of_request rfl rfl (by decide) rfl

theorem setBay (x0 : Header) (x1 : List Byte) : Statement (.setBay x0 x1) :=
  of_request rfl rfl (by decide) rfl

theorem getBay (x0 : Header) (x1 : List Byte) : Statement (.getBay x0 x1) :=
  of_request rfl rfl (by decide) rfl

theorem openWindow (x0 : Header) (x1 : List Byte) : Statement (.openWindow x0 x1) :=
  of_request rfl rfl (by decide) rfl

theorem closeWindow (x0 : Header) (x1 : List Byte) : Statement (.closeWindow x0 x1) :=
  of_request rfl rfl (by decide) rfl

theorem setLamp (x0 : Header) (x1 : List Byte) : Statement (.setLamp x0 x1) :=
  of_request rfl rfl (by decide) rfl

theorem setPattern (x0 : Header) (x1 : List Byte) : Statement (.setPattern x0 x1) :=
  of_request rfl rfl (by decide) rfl

theorem tick (x0 : TickInput) : Statement (.tick x0) :=
  of_event rfl

theorem captureTimeout (x0 : CaptureId) (x1 : TickInput) : Statement (.captureTimeout x0 x1) :=
  of_event rfl

theorem renotifyExpiry (x0 : SlotId) (x1 : TickInput) : Statement (.renotifyExpiry x0 x1) :=
  of_event rfl

theorem serviceExpiry (x0 : SlotId) (x1 : TickInput) : Statement (.serviceExpiry x0 x1) :=
  of_event rfl

theorem windowExpiry (x0 : BayId) (x1 : TickInput) : Statement (.windowExpiry x0 x1) :=
  of_event rfl

theorem overrideExpiry (x0 : BayId) (x1 : TickInput) : Statement (.overrideExpiry x0 x1) :=
  of_event rfl

theorem keyPress (x0 : BayId) (x1 : TickInput) : Statement (.keyPress x0 x1) :=
  of_event rfl

theorem longPress (x0 : BayId) (x1 : TickInput) : Statement (.longPress x0 x1) :=
  of_event rfl

theorem keyRelease (x0 : BayId) (x1 : TickInput) : Statement (.keyRelease x0 x1) :=
  of_event rfl

theorem conversion (x0 : Reading) : Statement (.conversion x0) :=
  of_event rfl

theorem faultEntry (x0 : Reading) : Statement (.faultEntry x0) :=
  of_event rfl

theorem faultRecovery (x0 : Reading) : Statement (.faultRecovery x0) :=
  of_event rfl

theorem plateau (x0 : Reading) : Statement (.plateau x0) :=
  of_event rfl

theorem captureComplete (x0 : Reading) : Statement (.captureComplete x0) :=
  of_event rfl

theorem powerLoss : Statement .powerLoss :=
  of_event rfl

end Sys2Proof.Laws.Framing
end

