-- ==== Sys2Proof/Tests/Slice0.lean ====
section
/-! SUPPORT. Tests: the checks of WellFormed, the manual's worked examples (each test names its source), and for every statement with
hypotheses a witness that meets them, clause by clause, at the ends of their ranges. -/

namespace Sys2Proof.Tests

set_option Elab.async false

open Sys2Proof Sys2Proof.Machine

/-! ### States to test on -/

/-- A header that names the unit of `State.reset` (five open straps, address 32). -/
def hdr : Header := { address := 32, tag := 41 }

/-- The header of a broadcast. -/
def everyone : Header := { address := 0, tag := 41 }

/-- A header that names another unit. -/
def another : Header := { address := 7, tag := 41 }

/-- The state that an outcome leads to. -/
def after (o : Out) : State :=
  match o with
  | .next t => t
  | _ => State.reset

/-- The state after a command. -/
def run (c : Instr) (s : State) : State :=
  after (exec c s)

/-- The status of the reply in transmission. -/
def answer (s : State) : Option Status :=
  s.link.reply.map Reply.status

/-- The payload of the reply in transmission. -/
def body (s : State) : List Byte :=
  match s.link.reply with
  | some r => r.payload
  | none => []

/-- A sound reading with raw value `r`. -/
def sound (r : Int) : Reading :=
  { raw := BitVec.ofInt 24 r, lowCurrent := false }

/-- A tick with the key samples given, the captures and the calls before the bays. -/
def plainTick (keys : BitVec 6) : TickInput :=
  { keysDown := keys, baysBeforeCaptures := false, baysBeforeCalls := false }

/-- The part after reset, its receiver in READY. -/
def ready : State :=
  State.reset.setReceiver .ready

/-- Lane 13 of the manual's worked cases (chapters 3 and 4): cases of 12,400 g, 17 of them committed, STABLE. -/
def lane13 : Lane :=
  { state := .stable
    binding := { item := 4711, bay := 1, unitMass := 12400, tolerance := 60, lowMark := 12, clearMark := 30, lowClass := 3,
                 emptyClass := 2, suspended := false, baselineNeeded := false }
    weighing := { shift := 3, jump := 20000, band := 200, settle := 8, trackStep := 4, trackLimit := 2000 }
    calibration := { zero := 40000, working := 41230, gain := 3277 }
    work := { filtered := 4251213, calm := 40, abnormalRun := 0, recoveryRun := 0, faultReason := .none, drift := false,
              net := 210512, count := 17, firm := true, stale := false }
    committed := { count := 17, net := 210512, firm := true, level := .ok, carryOver := false, recountDue := false }
    outcome := .none }

/-- A part whose one bound lane, lane 13, is `l`, and is under visit. -/
def shelf (l : Lane) : State :=
  { ready.putLane 13 l with scan := some { lane := 13, second := false } }

/-- Lane 13 in another state. -/
def inState (st : LaneState) : Lane :=
  { lane13 with state := st }

/-- Lane 13 suspended. -/
def suspended13 : Lane :=
  { lane13 with binding := { lane13.binding with suspended := true } }

/-- Lane 13 about to settle: MOVING, one calm conversion short of S. -/
def settling : Lane :=
  { lane13 with state := .moving, work := { lane13.work with filtered := 3011108, calm := 7 } }

/-- Lane 13 empty and bare, one calm conversion short of S, with filtered value `f` and working zero `z`. -/
def bare (f z : Int) : Lane :=
  { settling with
    calibration := { zero := 40000, working := z, gain := 3277 }
    work := { settling.work with filtered := f }
    committed := { count := 0, net := 0, firm := true, level := .empty, carryOver := false, recountDue := false } }

/-- A movement of lane 13. -/
def movement (tick : Tick) (kind : MoveKind) (before count : Nat) (delta : Int) (loose : Bool) : Movement :=
  { tick := tick, lane := 13, kind := kind, before := before, after := count, delta := delta, loose := loose, merged := false,
    contributors := 1 }

/-- A part whose journal is full. -/
def fullJournal : State :=
  { shelf lane13 with journal := List.replicate 128 (movement 100 .withdraw 31 29 (-24806) false) }

/-- A part whose journal is full, and whose lane 13 holds a record. -/
def holding : State :=
  fullJournal.putHeld 13 (some (movement 30140 .withdraw 29 26 (-37205) false))

/-- A call of lane 13 in a state, with a cause and a class. -/
def callIn (st : CallState) (c : Cause) (k : ClassId) : Call :=
  { lane := 13, cause := c, cls := k, state := st, overdue := false, rehit := false, nag := 0, repeats := 0, raiseTick := 0,
    takeTick := if st = .raised then none else some 0
    aging := if st = .raised then some 1 else none
    service := if st = .raised then none else some 1 }

/-- A part whose slot 4, generation 7, holds the call given, with lane 13 as given. -/
def calling (l : Lane) (a : Call) : State :=
  (shelf l).putEntry 4 { generation := 7, call := some a }

/-- A part whose 32 entries are all occupied, slot `i` by a FAULT call of lane `i`, and no other call. -/
def fullTable : State :=
  let entry (i : Fin 32) : CallEntry :=
    { generation := 0, call := some { callIn .taken .fault 1 with lane := ⟨i.val, by have := i.isLt; omega⟩ } }
  { shelf lane13 with calls := Vector.ofFn entry }

/-- A running capture of lane 13. -/
def capture13 (kind : CaptureKind) (mass remaining : Nat) (pending : Bool) : Capture :=
  { lane := 13, kind := kind, testMass := mass, restartPending := pending, remaining := remaining }

/-- A part that captures lane 13 in slot 0, with calm count 15. -/
def capturing (c : Capture) : State :=
  (shelf { inState .capture with work := { lane13.work with calm := 15 } }).putCapture 0 (some c)

/-- A part with all four capture slots running, for the lanes 0 to 3. -/
def fullCaptures : State :=
  let slot (i : Fin 4) : Option Capture :=
    some { capture13 .zero 0 300 true with lane := ⟨i.val, by have := i.isLt; omega⟩ }
  { shelf suspended13 with captures := Vector.ofFn slot }

/-- A part in which a save runs. -/
def savingState : State :=
  (shelf lane13).beginSave

/-- A part with bay 1 as given. -/
def withBay1 (r : Bay) : State :=
  (shelf lane13).putBay 1 r

/-- The key of bay 1 as given, its window as given. -/
def keyed (st : KeyState) (hold : Nat) (long : Bool) (window : Option Nat) : Bay :=
  { Bay.fresh BaySettings.factory with key := { state := st, hold := hold, longDone := long }, window := window }

/-! ### The checks of WellFormed, and the words of the table -/

theorem test_unknown_kind_of_the_table_is_ill_formed : wellFormed (.unknownKindRequest hdr 48 []) = false := by decide +kernel
theorem test_unknown_kind_of_a_reply_is_ill_formed : wellFormed (.unknownKindRequest hdr 128 []) = false := by decide +kernel
theorem test_unknown_kind_above_the_payload_is_ill_formed :
    wellFormed (.unknownKindRequest hdr 127 (List.replicate 241 0)) = false := by decide +kernel
theorem test_payload_above_240_is_ill_formed : wellFormed (.readMoves hdr (List.replicate 241 0)) = false := by decide +kernel
theorem test_discarded_frame_has_begun : wellFormed (.frameDiscarded []) = false := by decide +kernel
theorem test_abandoned_frame_has_begun : wellFormed (.frameAbandoned []) = false := by decide +kernel
theorem test_abandoned_frame_is_no_reply : wellFormed (.frameAbandoned [32, 41, 128]) = false := by decide +kernel
theorem test_abandoned_frame_is_not_too_long : wellFormed (.frameAbandoned [32, 41, 48, 241]) = false := by decide +kernel
theorem test_abandoned_frame_is_not_complete : wellFormed (.frameAbandoned [32, 41, 48, 1, 8, 0, 0]) = false := by decide +kernel
theorem test_well_formed_commands :
    wellFormed (.unknownKindRequest hdr 127 []) = true ∧ wellFormed (.readMoves hdr (List.replicate 240 0)) = true ∧
      wellFormed (.frameAbandoned [32, 41, 48, 1, 8, 0]) = true ∧ wellFormed (.frameDiscarded [32]) = true := by decide +kernel

/-- No row of the table carries bits, so a word spells no command and leaves the state alone. -/
theorem test_no_word_spells_a_command :
    decodeTableWord 16 48 = none ∧ (State.reset.withFetchWord 16 48).pending = [] := by decide +kernel

/-! ### The link (chapter 11) -/

/-- R188: the nine digits give 29B1 hexadecimal. -/
theorem test_crc_of_the_digits : crc [0x31, 0x32, 0x33, 0x34, 0x35, 0x36, 0x37, 0x38, 0x39] = 0x29B1#16 := by decide +kernel

/-- R186, R187, R199: READ_MOVES of 8 to unit 32, written out byte by byte, is judged to be that request. -/
theorem test_frame_of_read_moves :
    judgeFrame 32 ([32, 41, 48, 1, 8] ++ crcBytes (crc [32, 41, 48, 1, 8])) = .request (.readMoves hdr [8]) := by decide +kernel

/-- R187: the same frame with one bit of its payload turned is discarded. -/
theorem test_broken_frame_is_discarded :
    judgeFrame 32 ([32, 41, 48, 1, 9] ++ crcBytes (crc [32, 41, 48, 1, 8])) = .discarded := by decide +kernel

/-- R192: the part number 648, layout revision 1, address 32, DEFAULTED, 400 per second, classes 1 and 1, timeout 300, watermark
32, rate code 1. -/
theorem test_identify_after_reset :
    body (run (.identify hdr []) ready) = [2, 136, 1, 32, 1, 1, 144, 1, 1, 1, 44, 32, 1] := by decide +kernel

/-- R195, R199: a NEW_CALL and one RAISED call show in the status reply, and the reason is then clear. -/
theorem test_get_status_reports_and_clears :
    let s := { calling lane13 (callIn .raised .restock 3) with attention := { Attention.clear with newCall := true }, tick := 258 }
    body (run (.getStatus hdr []) s) = [1, 1, 0, 0, 0, 0, 0, 0, 1, 0, 0, 0, 1, 2] ∧
      s.attnLow = true ∧ (run (.getStatus hdr []) s).attnLow = false := by decide +kernel

/-- R189: a kind of 0 and a kind of 127 are answered UNKNOWN_KIND, a wrong size BAD_LENGTH. -/
theorem test_refusals_of_the_frame :
    answer (run (.unknownKindRequest hdr 0 []) ready) = some .unknownKind ∧
      answer (run (.unknownKindRequest hdr 127 [1]) ready) = some .unknownKind ∧
      answer (run (.openWindow hdr [1, 2]) ready) = some .badLength := by decide +kernel

/-- R193: 250 conversions per second is no rate. -/
theorem test_set_device_refuses_a_rate :
    answer (run (.setDevice hdr [0, 250, 1, 1, 1, 44, 32, 1]) ready) = some .badValue := by decide +kernel

/-- R193, R90, R101: a timeout of 49 is taken as 50 and a watermark of 0 as 1. -/
theorem test_set_device_clamps :
    body (run (.setDevice hdr [3, 32, 7, 0, 0, 49, 0, 2]) ready) = [3, 32, 7, 0, 0, 50, 1, 2] := by decide +kernel

/-- R196, R198: an image saved and agreed is what a restart loads; lane 13 comes out MOVING with Z on Z0 and baseline needed. -/
theorem test_save_then_restart :
    let s := run .replyComplete (run (.restart hdr []) ((run .lineIdle (run .replyComplete
      (run (.saveComplete true) (run (.saveSettings hdr []) (shelf lane13)))))))
    s.store.origin = .loaded ∧ (s.lane 13).state = .moving ∧ (s.lane 13).calibration.working = 40000 ∧
      (s.lane 13).binding.baselineNeeded = true ∧ s.scan = some { lane := 13, second := false } := by decide +kernel

/-- R197, R198: a loss of the supply during a save leaves a bad checksum, and the unit comes up DEFAULTED with its straps' address. -/
theorem test_power_loss_cuts_a_save_off :
    let s := run (.powerOn 6) (run .powerLoss savingState)
    s.store.origin = .defaulted ∧ s.link.unitAddress = 7 ∧ (s.lane 13).state = .off ∧ s.scan = none := by decide +kernel

/-- R198: while RESET_N is low the lamps are unlit and requests are not received. -/
theorem test_reset_n_holds_the_part :
    let s := run .resetNLow (withBay1 { keyed .idle 0 false none with lit := true })
    s.lampLit 1 = false ∧ run (.clearJournal hdr []) s = s ∧ (run (.resetNRelease 31) s).operating = true := by decide +kernel

/-- R186: the line events of the receiver. -/
theorem test_receiver :
    (run (.frameDiscarded [32, 41, 128]) ready).link.receiver = .hunt ∧
      (run (.frameAbandoned [32, 41]) ready).link.receiver = .ready ∧
      (run .lineIdle State.reset).link.receiver = .ready ∧
      (run (.identify another []) ready).link.receiver = .hunt := by decide +kernel

/-! ### Readings and arithmetic (chapters 2 and 3) -/

/-- The condition examples of section 2.2. -/
theorem test_conditions :
    condition (sound 4251230) = .normal ∧ condition (sound 8388606) = .normal ∧ condition (sound 8388607) = .clipped ∧
      condition (sound (-8388608)) = .clipped ∧
      condition { raw := BitVec.ofInt 24 (-8388608), lowCurrent := true } = .noResponse ∧
      condition { raw := 12, lowCurrent := true } = .noResponse := by decide +kernel

/-- R36's table: the steps for deviations of 17 and −17, and the largest deviation with step 0. -/
theorem test_filter_steps :
    filterStep 1 17 = 9 ∧ filterStep 1 (-17) = -9 ∧ filterStep 3 17 = 2 ∧ filterStep 3 (-17) = -2 ∧ filterStep 3 3 = 0 ∧
      filterStep 3 4 = 1 ∧ filterStep 6 31 = 0 ∧ filterStep 6 (-32) = -1 := by decide +kernel

/-- R40: 1.5 grams give 2, −1.5 give −2, and 98,303 gives 1. -/
theorem test_rounding_of_grams : roundGrams 98304 = 2 ∧ roundGrams (-98304) = -2 ∧ roundGrams 98303 = 1 := by decide +kernel

/-- "A conversion while STABLE" (chapter 3): F 4,251,215, calm 41, net 210,512 g, 17 cases, firm. -/
theorem test_conversion_while_stable :
    let l := (run (.conversion (sound 4251230)) (shelf lane13)).lane 13
    l.state = .stable ∧ l.work = { lane13.work with filtered := 4251215, calm := 41 } ∧ l.committed = lane13.committed := by
  decide +kernel

/-- "Five cases lifted" (chapter 3): the filter restarts, and the lane is MOVING with 148,518 g, 12 cases, firm. -/
theorem test_five_cases_lifted :
    let t := run (.conversion (sound 3011400)) (shelf lane13)
    (t.lane 13).state = .moving ∧ (t.lane 13).work.net = 148518 ∧ (t.lane 13).work.count = 12 ∧
      (t.lane 13).work.firm = true ∧ (t.lane 13).work.calm = 0 ∧ t.scan = some { lane := 13, second := true } := by decide +kernel

/-- The plateau of "Five cases lifted" with "The withdrawal" (chapter 4): the commit, the movement, the LOW level and the call. -/
theorem test_withdrawal_plateau :
    let t := run (.plateau (sound 3011108)) { shelf settling with tick := 18204 }
    (t.lane 13).committed = { count := 12, net := 148503, firm := true, level := .low, carryOver := false, recountDue := false } ∧
      (t.lane 13).state = .stable ∧ (t.lane 13).calibration.working = 41230 ∧
      t.journal = [movement 18204 .withdraw 17 12 (-62009) false] ∧
      (t.callAt 0).map (fun c => (c.lane, c.cause, c.cls, c.state, c.aging)) = some (13, .restock, 3, .raised, some 600) ∧
      t.attention.newCall = true := by decide +kernel

/-- "The replenishment" (chapter 4): the window open, 31 cases, REPLENISH, the level OK, and the TAKEN call SATISFIED. -/
theorem test_replenishment_plateau :
    let l := { settling with
      work := { settling.work with filtered := 7722761 }
      committed := { count := 13, net := 160950, firm := true, level := .low, carryOver := false, recountDue := false } }
    let t := run (.conversion (sound 7722761)) ((calling l (callIn .taken .restock 3)).putBay 1 (keyed .idle 0 false (some 2932)))
    t.journal = [movement 0 .replenish 13 31 223150 false] ∧ (t.lane 13).committed.level = .ok ∧
      (t.callAt 4).map Call.state = some .satisfied := by decide +kernel

/-- "Estimates at the limits" (chapter 3), row by row. -/
theorem test_estimates_at_the_limits :
    firmOf (-150) 12400 60 = true ∧ firmOf (-1000) 12400 60 = false ∧ firmOf 0 12400 60 = true ∧
      countOf 6200 12400 = 1 ∧ countOf 6199 12400 = 0 ∧ firmOf 6200 12400 60 = false ∧
      countOf 3600000 50 = 65535 ∧ firmOf 3600000 50 60 = false ∧
      netOf 8000000 = 4000000 ∧ countOf 4000000 12400 = 323 ∧ firmOf 8000000 12400 60 = false := by decide +kernel

/-- "Zero tracking to the limit" (chapter 3), plateaus 1, 3 and 5. -/
theorem test_zero_tracking :
    let t1 := run (.conversion (sound 41240)) (shelf (bare 41240 41230))
    let t3 := run (.conversion (sound 42050)) (shelf (bare 42050 41998))
    let t5 := (bare 41990 42000).tracked
    (t1.lane 13).calibration.working = 41234 ∧ (t1.lane 13).work.drift = false ∧
      (t3.lane 13).calibration.working = 42000 ∧ (t3.lane 13).work.drift = true ∧
      (t3.callAt 0).map (fun c => (c.cause, c.cls)) = some (.fault, 1) ∧
      t5.calibration.working = 41996 ∧ t5.work.drift = false := by decide +kernel

/-- "A fault and its recovery" (chapter 3), conversions 6 and 16. -/
theorem test_fault_and_recovery :
    let t6 := run (.faultEntry (sound 8388607))
      (shelf { inState .moving with work := { lane13.work with abnormalRun := 2, calm := 1 } })
    let t16 := run (.faultRecovery (sound 2399996))
      (shelf { inState .fault with work := { lane13.work with recoveryRun := 7, stale := true, faultReason := .noResponse } })
    (t6.lane 13).state = .fault ∧ (t6.lane 13).work.faultReason = .clipped ∧ (t6.lane 13).work.stale = true ∧
      (t6.lane 13).work.net = 210512 ∧ t6.attention.fault = true ∧ (t6.callAt 0).map Call.cause = some .fault ∧
      (t16.lane 13).state = .moving ∧ (t16.lane 13).work.filtered = 2399996 ∧ (t16.lane 13).committed.recountDue = true ∧
      (t16.lane 13).work.stale = false ∧ (t16.lane 13).committed.count = 17 := by decide +kernel

/-- R67's table, between the marks and on them, with L = 12 and C = 30. -/
theorem test_levels :
    levelOf 0 12 30 .ok = .empty ∧ levelOf 12 12 30 .ok = .low ∧ levelOf 13 12 30 .ok = .ok ∧ levelOf 29 12 30 .low = .low ∧
      levelOf 29 12 30 .empty = .low ∧ levelOf 29 12 30 .none = .ok ∧ levelOf 30 12 30 .low = .ok := by decide +kernel

/-! ### Captures (chapter 5) -/

/-- R84's table of spans. -/
theorem test_span_gains :
    spanGain 1000000 50000 = some 3277 ∧ spanGain 16000000 100 = none ∧ spanGain 1000 2000000 = none ∧
      spanGain 1000 64000 = some 4194304 ∧ spanGain 999 50000 = none := by decide +kernel

/-- R82, R83: the sixteenth calm conversion completes a zero capture. -/
theorem test_zero_capture_completes :
    let t := run (.captureComplete (sound 4251213)) (capturing (capture13 .zero 0 200 false))
    (t.lane 13).state = .stable ∧ (t.lane 13).calibration.zero = 4251213 ∧ (t.lane 13).calibration.working = 4251213 ∧
      (t.lane 13).outcome = .done ∧ (t.lane 13).binding.baselineNeeded = true ∧ t.capture 0 = none ∧
      (t.lane 13).work.net = 210512 := by decide +kernel

/-- R81: the first sound conversion of a capture restarts the filter and completes nothing. -/
theorem test_capture_restarts_the_filter :
    let t := run (.conversion (sound 4251213)) (capturing (capture13 .zero 0 200 true))
    (t.lane 13).state = .capture ∧ (t.lane 13).work.calm = 0 ∧ (t.capture 0).map Capture.restartPending = some false := by
  decide +kernel

/-- R79: the reply to BEGIN_SPAN echoes the lane, the kind, the mass, the slot and the timeout of 300 ticks. -/
theorem test_begin_span :
    body (run (.beginSpan hdr [13, 0, 0, 195, 80]) (shelf suspended13)) = [13, 1, 0, 0, 195, 80, 0, 1, 44] := by decide +kernel

/-- R87: a cancelled capture leaves the lane MOVING. -/
theorem test_cancel_capture :
    let t := run (.cancelCapture hdr [13]) (capturing (capture13 .span 50000 200 false))
    body t = [13, 0, 1] ∧ (t.lane 13).state = .moving ∧ (t.lane 13).outcome = .cancelled := by decide +kernel

/-- R86: the timeout that reaches 0 ends the capture. -/
theorem test_capture_timeout :
    let t := run (.captureTimeout 0 (plainTick 0)) (capturing (capture13 .zero 0 1 false))
    (t.lane 13).state = .moving ∧ (t.lane 13).outcome = .timeout ∧ t.capture 0 = none := by decide +kernel

/-- R91: SET_CALIBRATION puts Z on Z0 and asks for a baseline. -/
theorem test_set_calibration :
    let t := run (.setCalibration hdr [13, 0, 0, 156, 64, 0, 0, 12, 205]) (shelf lane13)
    (t.lane 13).calibration = { zero := 40000, working := 40000, gain := 3277 } ∧
      (t.lane 13).binding.baselineNeeded = true := by decide +kernel

/-! ### Lanes (chapter 1) -/

/-- The payload of BIND_LANE for lane 13 with the marks given: 12,400 g, tolerance 60, classes 3 and 2, bay 1, item 4,711. -/
def bindPayload (low clear : Byte) : List Byte :=
  [13, 0, 0, 18, 103, 48, 112, 0, 60, 0, low, 0, clear, 3, 2, 1]

/-- R9, R10, R30: a lane bound from OFF is MOVING, and an idle scanner starts at it. -/
theorem test_bind_from_off :
    let t := run (.bindLane hdr (bindPayload 12 30)) ready
    body t = bindPayload 12 30 ++ [1] ∧ (t.lane 13).state = .moving ∧ (t.lane 13).binding.unitMass = 12400 ∧
      (t.lane 13).calibration.gain = 65536 ∧ t.scan = some { lane := 13, second := false } := by decide +kernel

/-- "Rebinding lane 13 with new marks" (chapter 1): a count of 12 under C = 12 is OK, and the RAISED call is withdrawn. -/
theorem test_rebinding_with_new_marks :
    let l := { lane13 with committed := { lane13.committed with count := 12, level := .low } }
    let t := run (.bindLane hdr (bindPayload 8 12)) (calling l (callIn .raised .restock 3))
    (t.lane 13).committed.level = .ok ∧ (t.lane 13).binding.baselineNeeded = false ∧
      t.entry 4 = { generation := 8, call := none } := by decide +kernel

/-- R12: UNBIND_LANE is refused while the hold slot is occupied, and otherwise frees the lane's calls. -/
theorem test_unbind :
    answer (run (.unbindLane hdr [13]) holding) = some .laneBusy ∧
      (run (.unbindLane hdr [13]) (calling lane13 (callIn .taken .restock 3))).lane 13 = Lane.off 13 ∧
      (run (.unbindLane hdr [13]) (calling lane13 (callIn .taken .restock 3))).callAt 4 = none := by decide +kernel

/-- R13, R14: a shift of 7 is taken as 6, a negative jump as 1, and Z is clamped to Z0 plus a limit of 1,000. -/
theorem test_set_lane_weighing :
    let t := run (.setLaneWeighing hdr [13, 7, 255, 255, 255, 255, 0, 0, 0, 200, 1, 4, 3, 232]) (shelf lane13)
    (t.lane 13).weighing = { shift := 6, jump := 1, band := 200, settle := 2, trackStep := 4, trackLimit := 1000 } ∧
      (t.lane 13).calibration.working = 41000 ∧ (t.lane 13).work = lane13.work := by decide +kernel

/-- R16, R17: suspension frees the RAISED call; the resumption raises it again from the level. -/
theorem test_suspend_and_resume :
    let l := { lane13 with committed := { lane13.committed with count := 12, level := .low } }
    let t := run (.suspendLane hdr [13]) (calling l (callIn .raised .restock 3))
    let u := run (.resumeLane hdr [13]) (t.setReceiver .ready)
    t.callAt 4 = none ∧ (t.lane 13).binding.suspended = true ∧ (u.lane 13).binding.baselineNeeded = true ∧
      (u.callAt 0).map (fun c => (c.cause, c.cls)) = some (.restock, 3) := by decide +kernel

/-- R19, R199: the record of an OFF lane has baseline needed set and nothing else. -/
theorem test_lane_summary :
    (body (run (.laneSummary hdr []) (shelf lane13))).take 4 = [0, 0, 0, 2] ∧
      ((body (run (.laneSummary hdr []) (shelf lane13))).drop 52).take 4 = [72, 0, 17, 4] := by decide +kernel

/-- R18: the first bytes and the length of GET_LANE's reply. -/
theorem test_get_lane :
    (body (run (.getLane hdr [13]) (shelf lane13))).take 9 = [72, 0, 17, 4, 0, 0, 18, 103, 1] ∧
      answer (run (.getLane hdr [48]) (shelf lane13)) = some .badValue := by decide +kernel

/-! ### Journal and watch (chapters 6 and 7) -/

/-- R104: three of three records, oldest first, each of 16 bytes (R199). -/
theorem test_read_moves :
    let s := { shelf lane13 with journal := [movement 18204 .withdraw 17 12 (-62009) false] }
    body (run (.readMoves hdr [9]) s) =
      [1, 1, 0, 0, 71, 28, 13, 0, 0, 17, 0, 12, 255, 255, 13, 199, 0, 1] := by decide +kernel

/-- "Filling, holding, merging and draining" (chapter 6), steps 3, 5, 8 and 9. -/
theorem test_journal_worked_sequence :
    let s3 := fullJournal.journalEntry (movement 30140 .withdraw 29 26 (-37205) false)
    let s5 := s3.journalEntry (movement 30166 .giveBack 26 27 12410 true)
    let s8 := s5.journalEntry (movement 30205 .replenish 27 45 223180 false)
    s3.attention.held = true ∧
      s5.held 13 = some { movement 30140 .withdraw 29 27 (-24795) true with merged := true, contributors := 2 } ∧
      s8.held 13 = some { movement 30140 .replenish 29 45 198385 true with merged := true, contributors := 3 } ∧
      body (run (.removeMoves hdr [1]) s8) = [1, 128, 0] := by decide +kernel

/-- Step 6 of the same sequence: no net change discards the merged record. -/
theorem test_merge_discards_no_change :
    merge (movement 30150 .giveBack 9 10 12396 false) (movement 30181 .withdraw 10 9 (-12401) false) = none := by decide

/-- R106: the numbers of records discarded. -/
theorem test_clear_journal : body (run (.clearJournal hdr []) holding) = [128, 1] := by decide +kernel

/-- The SET_WATCH payload of rule 0 of "Four rules over one morning" (chapter 7). -/
def rule0 : List Byte :=
  [0, 1, 1, 8, 15, 1, 0, 0, 0, 0, 0, 10, 0, 0, 255, 255, 0, 2, 0]

/-- Rules 0 and 3 of the same sequence: movement 1 matches rule 3 alone, movement 2 both, and the hit of movement 2 is of class 2. -/
theorem test_watch_worked_sequence :
    let s := (run (.setWatch hdr ((3 : Byte) :: [1, 1, 8, 15, 1, 0, 0, 0, 0, 0, 3, 0, 0, 255, 255, 0, 4, 0]))
      ((run (.setWatch hdr rule0) (shelf lane13)).setReceiver .ready))
    let s1 := s.watchEvaluate (movement 0 .withdraw 17 12 (-62009) false)
    let s2 := s1.watchEvaluate (movement 0 .withdraw 12 0 (-148505) false)
    (s1.rule 0).hits = 0 ∧ (s1.rule 3).hits = 1 ∧ (s1.callAt 0).map Call.cls = some 4 ∧
      (s2.rule 0).hits = 1 ∧ (s2.rule 3).hits = 2 ∧ (s2.callAt 0).map Call.cls = some 2 ∧
      (body (run (.clearWatchHits hdr []) (s2.setReceiver .ready))).take 8 = [0, 1, 0, 0, 0, 0, 0, 2] := by decide +kernel

/-- Rule 2 of the same sequence: grams outside 0 to 100,000, one-shot; it fires once. -/
theorem test_one_shot_rule :
    let r : WatchRule := { hits := 0, config := { WatchConfig.factory with
      enabled := true, laneLow := 13, kinds := 15, measure := .grams, magnitudeMode := .outside, magnitudeHigh := 100000,
      action := .raise, cls := 1, oneShot := true } }
    let r' := ruleAfter r (movement 0 .replenish 7 20 161195 false)
    r'.hits = 1 ∧ r'.config.enabled = false ∧ ruleMatches r (movement 0 .withdraw 20 12 (-100000) false) = false := by
  decide +kernel

/-- R118: GET_WATCH reports a rule as R109 orders its fields. -/
theorem test_get_watch :
    body (run (.getWatch hdr [0]) ((run (.setWatch hdr rule0) (shelf lane13)).setReceiver .ready)) = rule0 ++ [0, 0] := by
  decide +kernel

/-! ### Calls and classes (chapters 8 and 9) -/

/-- R137, R199: the offer and its record. -/
theorem test_next_call :
    body (run (.nextCall hdr []) (calling lane13 (callIn .raised .restock 3))) =
      [1, 1, 4, 7, 13, 0, 0, 0, 18, 103, 3, 0, 0, 0, 0, 0, 0, 0, 0, 0, 0, 0, 0, 0, 0, 1] := by decide +kernel

/-- R137, R152: the older raise is offered, across a wrap of the counter, until it is older than 2^31 ticks. -/
theorem test_offer_age :
    let two (now older : Tick) : State :=
      { (calling lane13 { callIn .raised .restock 3 with raiseTick := now }).putEntry 5
          { generation := 0, call := some { callIn .raised .fault 3 with raiseTick := older } } with tick := now }
    (two 5 4294967290).offer.map Prod.fst = some 5 ∧ (two 2147483648 0).offer.map Prod.fst = some 5 ∧
      (two 2147483649 0).offer.map Prod.fst = some 4 := by decide +kernel

/-- R138: the table from slot 4 on, and from slot 5 on. -/
theorem test_list_calls :
    (body (run (.listCalls hdr [4]) (calling lane13 (callIn .taken .fault 1)))).take 3 = [1, 4, 7] ∧
      body (run (.listCalls hdr [5]) (calling lane13 (callIn .taken .fault 1))) = [0] := by decide +kernel

/-- R139, R140: the service timer of class 3 is 12,000; another generation is stale. -/
theorem test_take_call :
    let t := run (.takeCall hdr [4, 7]) (calling lane13 (callIn .raised .restock 3))
    (t.callAt 4).map (fun c => (c.state, c.takeTick, c.aging, c.service)) = some (.taken, some 0, none, some 12000) ∧
      answer (run (.takeCall hdr [4, 6]) (calling lane13 (callIn .raised .restock 3))) = some .staleCall := by decide +kernel

/-- Events 7 and 12 of "A busy morning in bay 2" (chapter 8): a SATISFIED call is freed, one whose source is asserted returns. -/
theorem test_close_call :
    let l := { lane13 with committed := { lane13.committed with count := 0, level := .empty } }
    (run (.closeCall hdr [4, 7]) (calling lane13 (callIn .satisfied .fault 1))).entry 4 = { generation := 8, call := none } ∧
      ((run (.closeCall hdr [4, 7]) (calling l (callIn .taken .restock 2))).callAt 4).map
        (fun c => (c.state, c.repeats, c.aging, c.takeTick)) = some (.raised, 1, some 600, none) := by decide +kernel

/-- R146: the clearing frees the FAULT call and raises the asserted RESTOCK source afresh in slot 0. -/
theorem test_clear_calls :
    let l := { lane13 with committed := { lane13.committed with count := 0, level := .empty } }
    let t := run (.clearCalls hdr []) (calling l (callIn .taken .restock 2))
    body t = [1, 0] ∧ (t.callAt 0).map Call.state = some .raised ∧ (t.entry 4).generation = 8 := by decide +kernel

/-- Events 3 and 7 of the same sequence: with the table full a source waits as a marker, and a freed entry goes to it. -/
theorem test_marker_and_placement :
    let s := fullTable.assertSource 40 .fault 1
    let l := { lane13 with committed := { lane13.committed with count := 0, level := .empty } }
    let m := (fullTable.putLane 40 l).assertSource 40 .restock 2
    s = fullTable ∧ (m.marker 40).restock = true ∧ ((m.freeEntry 30).place.marker 40).restock = false ∧
      ((m.freeEntry 30).place.callAt 30).map (fun c => (c.lane, c.cls)) = some (40, 2) := by decide +kernel

/-- "Shortening a period, with and without apply now" (chapter 9). -/
theorem test_set_class :
    let s := calling lane13 { callIn .raised .restock 4 with aging := some 1100 }
    ((run (.setClass hdr [4, 0, 1, 44, 6, 70, 80, 0]) s).callAt 4).map Call.aging = some (some 1100) ∧
      ((run (.setClass hdr [4, 0, 1, 44, 6, 70, 80, 1]) s).callAt 4).map Call.aging = some (some 300) ∧
      body (run (.setClass hdr [4, 0, 1, 44, 16, 70, 80, 1]) s) = [4, 0, 1, 44, 15, 70, 80, 1] := by decide +kernel

/-- R164: the record of class 4 and its one RAISED call. -/
theorem test_get_class :
    body (run (.getClass hdr [4]) (calling lane13 (callIn .raised .restock 4))) =
      [4, 0, 4, 176, 6, 70, 80, 1, 0, 0, 0, 0] := by decide +kernel

/-- "A call left untaken" (chapter 9), expiry 6: class 4 becomes 3, the nag count 0, the timer 600. -/
theorem test_renotify_escalates :
    let t := run (.renotifyExpiry 4 (plainTick 0)) (calling lane13 { callIn .raised .restock 4 with nag := 5 })
    (t.callAt 4).map (fun c => (c.cls, c.nag, c.aging)) = some (3, 0, some 600) ∧ t.attention.renotify = true := by decide +kernel

/-- "A deadline across SATISFIED" (chapter 9): the service expiry. -/
theorem test_service_expiry :
    let t := run (.serviceExpiry 4 (plainTick 0)) (calling lane13 (callIn .taken .restock 2))
    (t.callAt 4).map (fun c => (c.overdue, c.service)) = some (true, some 0) ∧ t.attention.overdue = true := by decide +kernel

/-! ### Bays (chapter 10) -/

/-- R183: the settings are clamped, and a key that is disabled is IDLE. -/
theorem test_set_bay :
    let t := run (.setBay hdr [1, 0, 0, 9, 0, 101]) (withBay1 (keyed .down 5 false none))
    body t = [1, 0, 0, 10, 0, 100] ∧ (t.bay 1).key = Key.idle := by decide +kernel

/-- R184, R199: a fresh bay and the pattern table. -/
theorem test_get_bay :
    body (run (.getBay hdr [1]) ready) =
      [1, 1, 11, 184, 0, 20, 0, 0, 0, 0, 0, 0, 7, 0, 0, 5, 0, 1, 4, 2, 1, 6, 3, 1, 10, 10, 1, 20, 10, 1, 30, 3, 0] := by
  decide +kernel

/-- R175: opened with the bay's length, reloaded with a length of its own, closed with the MOVING lane marked. -/
theorem test_windows :
    let s := shelf (inState .moving)
    let t := run (.openWindow hdr [1]) s
    body t = [1, 0, 11, 184] ∧ body (run (.openWindow hdr [1, 0, 1]) (t.setReceiver .ready)) = [1, 1, 0, 10] ∧
      body (run (.closeWindow hdr [1]) (t.setReceiver .ready)) = [1, 1, 1] ∧ body (run (.closeWindow hdr [1]) s) = [1, 0, 0] := by
  decide +kernel

/-- R180, R181: the clamps of SET_PATTERN and SET_LAMP. -/
theorem test_patterns_and_overrides :
    body (run (.setPattern hdr [3, 0, 9, 1]) ready) = [3, 1, 1, 1] ∧
      body (run (.setLamp hdr [1, 6, 23, 113]) ready) = [1, 6, 23, 112] ∧
      body (run (.setLamp hdr [1, 7, 23, 113]) ready) = [1, 7, 0, 0] ∧
      ((run (.overrideExpiry 1 (plainTick 0))
        (withBay1 { keyed .idle 0 false none with forced := some { display := .steady, remaining := some 1 } })).bay 1).forced =
        none := by decide +kernel

/-- "A short press" (chapter 10), ticks 19,049 and 19,052. -/
theorem test_short_press :
    let t := run (.keyRelease 1 (plainTick 0)) (withBay1 (keyed .lettingGo 1 false none))
    ((run (.keyPress 1 (plainTick 2)) (withBay1 (keyed .arming 0 false none))).bay 1).key =
        { state := .down, hold := 0, longDone := false } ∧
      (t.bay 1).window = some 3000 ∧ (t.bay 1).selected = .window ∧ (t.bay 1).phase = 0 ∧ t.lampLit 1 = true := by decide +kernel

/-- "A long press with chatter" (chapter 10), tick 30,022: the twentieth held sample closes the window. -/
theorem test_long_press :
    let t := run (.longPress 1 (plainTick 2)) { withBay1 (keyed .down 19 false (some 1478)) with lanes :=
      (shelf (inState .moving)).lanes }
    (t.bay 1).key = { state := .down, hold := 20, longDone := true } ∧ (t.bay 1).window = none ∧
      (t.lane 13).committed.carryOver = true := by decide +kernel

/-- "A short press, a reload and an expiry" (chapter 10): the expiry marks the MOVING lane, and not a STABLE one. -/
theorem test_window_expiry :
    let t := run (.windowExpiry 1 (plainTick 0))
      ((shelf (inState .moving)).putLane 12 { lane13 with binding := lane13.binding } |>.putBay 1 (keyed .idle 0 false (some 1)))
    (t.bay 1).window = none ∧ (t.lane 13).committed.carryOver = true ∧ (t.lane 12).committed.carryOver = false := by
  decide +kernel

/-- "The lamp of bay 1 through a morning" (chapter 10): CALL at phase 10 is unlit, URGENT for class 1, TAKEN at phase 0 unlit. -/
theorem test_lamps :
    let call := run (.tick (plainTick 0)) ((calling lane13 (callIn .raised .restock 3)).putBay 1
      { keyed .idle 0 false none with selected := .call, phase := 9, lit := true })
    let urgent := run (.tick (plainTick 0)) (calling lane13 { callIn .raised .watch 1 with aging := none })
    let taken := run (.tick (plainTick 0)) (calling lane13 { callIn .taken .restock 3 with service := none })
    (call.bay 1).selected = .call ∧ (call.bay 1).phase = 10 ∧ call.lampLit 1 = false ∧
      (urgent.bay 1).selected = .urgent ∧ urgent.lampLit 1 = true ∧
      (taken.bay 1).selected = .taken ∧ taken.lampLit 1 = false ∧ taken.tick = 1 := by decide +kernel

/-! ### Witnesses: states and operands that meet the hypotheses of each statement, clause by clause

A witness bears the name of its statement. Where a statement has clauses over ranges, the values here stand at the ends of those
ranges. A statement that is not here has no hypothesis on the state. -/

/-- Two calls never share a lane and a cause: the law from its decidable form. -/
theorem distinct_of_keys (s : State)
    (h : ∀ i j : SlotId, i ≠ j → (s.callAt i).isSome = true →
      (s.callAt i).map (fun a => (a.lane, a.cause)) ≠ (s.callAt j).map (fun a => (a.lane, a.cause))) : CallsDistinct s := by
  intro i j a b ha hb hl hc
  by_contra hij
  exact h i j hij (by simp [ha]) (by simp [ha, hb, hl, hc])

/-- No two slots run for one lane: the second half of the capture law from its decidable form. -/
theorem captures_of_lanes (s : State)
    (h : ∀ i j : CaptureId, i ≠ j → (s.capture i).isSome = true →
      (s.capture i).map Capture.lane ≠ (s.capture j).map Capture.lane) :
    ∀ i j : CaptureId, ∀ a b, s.capture i = some a → s.capture j = some b → a.lane = b.lane → i = j := by
  intro i j a b ha hb hl
  by_contra hij
  exact h i j hij (by simp [ha]) (by simp [ha, hb, hl])

/-- With every marker clear there is none that is set. -/
theorem none_marked (s : State) (h : ∀ n : LaneId, s.marker n = Markers.clear) (n : LaneId) (c : Cause) :
    (s.marker n).has c ≠ true := by
  rw [h n]
  cases c <;> decide

/-- With every marker clear, the law of the markers. -/
theorem markers_of_clear (s : State) (h : ∀ n : LaneId, s.marker n = Markers.clear) : MarkersLaw s :=
  fun n c hc => absurd hc (none_marked s h n c)

/-- With every marker clear, the law of quiet lanes from its half about calls. -/
theorem quiet_of_clear (s : State) (h : ∀ n : LaneId, s.marker n = Markers.clear)
    (hc : ∀ i : SlotId, ∀ a, s.callAt i = some a →
      (s.lane a.lane).state ≠ .off ∧ (a.state = .raised → (s.lane a.lane).binding.suspended = false)) : QuietLanes s :=
  ⟨hc, fun n c k => absurd k (none_marked s h n c)⟩

/-- A part with a command in front of its queue. -/
def queued (c : Instr) (s : State) : State :=
  { s with pending := [c] }

/-- A part whose lane 13 is LOW, with its RESTOCK call as given. -/
def lowCalling (st : CallState) : State :=
  calling { lane13 with committed := { lane13.committed with count := 12, level := .low } } (callIn st .restock 3)

theorem witness_StepTakesFront : (queued .lineIdle ready).pending = [.lineIdle] := by decide +kernel

theorem witness_FrameRoundTrip :
    wellFormed (.readMoves hdr [8]) = true ∧ requestParts (.readMoves hdr [8]) = some (hdr, 48, [8]) ∧
      wellFormed (.identify everyone (List.replicate 240 0)) = true ∧
      requestParts (.identify everyone (List.replicate 240 0)) = some (everyone, 1, List.replicate 240 0) ∧
      wellFormed (.unknownKindRequest another 127 []) = true ∧
      requestParts (.unknownKindRequest another 127 []) = some (another, 127, []) ∧
      hdr.address = 32 ∧ everyone.address = 0 ∧ another.address ≠ 0 ∧ another.address ≠ 32 := by decide +kernel

theorem witness_FrameCheckSequence : requestParts (.readMoves hdr [8]) = some (hdr, 48, [8]) := by decide +kernel

theorem witness_LineEventsMoveTheReceiver :
    128 ≤ (128 : Byte).toNat ∧ 240 < (241 : Byte).toNat ∧ (127 : Byte).toNat < 128 ∧
      (List.replicate 240 (0 : Byte)).length ≤ 240 ∧ ready.operating = true ∧ ready.link.receiver = .ready ∧
      judgeFrame ready.link.unitAddress [32, 41, 128] = .discarded ∧ State.reset.operating = true ∧
      State.reset.link.receiver = .hunt ∧ unfinishedFrame [32] = true ∧
      (run (.identify hdr []) ready).operating = true ∧ (run (.identify hdr []) ready).link.receiver = .replying := by decide +kernel

theorem witness_UnheardRequestsHaveNoEffect :
    wellFormed (.readMoves hdr [8]) = true ∧ requestParts (.readMoves hdr [8]) = some (hdr, 48, [8]) ∧
      (run .resetNLow ready).operating = false ∧ State.reset.link.receiver ≠ .ready ∧
      requestParts (.readMoves another [8]) = some (another, 48, [8]) ∧ ready.operating = true ∧
      ready.link.receiver = .ready ∧ another.address ≠ 0 ∧ another.address ≠ ready.link.unitAddress := by decide +kernel

theorem witness_BroadcastsActWithoutReply :
    HearsBroadcast ready everyone ∧ ready.link.unitAddress ≠ 0 ∧ (127 : Byte).toNat < 128 ∧
      (List.replicate 240 (0 : Byte)).length ≤ 240 ∧ (2 : Byte).toNat ∈ reportKinds ∧ (0 : Byte).toNat ∉ reportKinds ∧
      answer (run (.restart hdr []) ready) = some .ok ∧
      answer (run (.restart hdr []) savingState) = some .busy ∧ HearsBroadcast savingState everyone ∧
      answer (run (.setDevice hdr [0, 100, 0, 7, 0, 50, 1, 2]) ready) = some .ok ∧
      answer (run (.clearJournal hdr []) ready) = some .ok := by decide +kernel

theorem witness_UnknownKindsAndSizesAreRefused :
    Hears ready hdr ∧ HearsBroadcast ready everyone ∧ (0 : Byte).toNat < 128 ∧ (0 : Byte).toNat ∉ requestKinds ∧
      (127 : Byte).toNat < 128 ∧ (127 : Byte).toNat ∉ requestKinds ∧ (82 : Byte).toNat ∈ requestKinds ∧
      2 ∉ payloadSizes (82 : Byte).toNat ∧ 0 ∉ payloadSizes (82 : Byte).toNat ∧ 4 ∉ payloadSizes (82 : Byte).toNat := by
  decide +kernel

theorem witness_SavingRefusesStoredSettings :
    Hears savingState hdr ∧ savingState.store.save = .saving ∧ (3 : Byte).toNat ∈ busyKinds ∧ 0 ∈ payloadSizes (3 : Byte).toNat ∧
      (85 : Byte).toNat ∈ busyKinds ∧ 4 ∈ payloadSizes (85 : Byte).toNat ∧ (34 : Byte).toNat ∈ requestKinds ∧
      (34 : Byte).toNat ∉ busyKinds := by decide +kernel

theorem witness_IdentifyAndGetStatusReport : Hears savingState hdr ∧ Hears ready hdr := by decide +kernel

theorem witness_SetDeviceTakesAllSettings :
    Hears ready hdr ∧ ready.store.save ≠ .saving ∧
      (3 : Byte).toNat * 256 + (32 : Byte).toNat = ConversionRate.perSecond .r800 ∧ (7 : Byte).toNat = (7 : ClassId).val ∧
      (0 : Byte).toNat = (0 : ClassId).val ∧ (2 : Byte).toNat = LinkRate.code .b115200 ∧
      (3 : Byte).toNat * 256 + (33 : Byte).toNat ∉ [100, 200, 400, 800] ∧ 7 < (8 : Byte).toNat ∧ 2 < (3 : Byte).toNat := by
  decide +kernel

theorem witness_SavesCopyAndEnd :
    Hears (shelf lane13) hdr ∧ (shelf lane13).store.save ≠ .saving ∧ savingState.operating = true ∧
      savingState.store.save = .saving ∧ ready.operating = true ∧ ready.store.save ≠ .saving := by decide +kernel

theorem witness_RestartFollowsItsReply :
    Hears ready hdr ∧ ready.store.save ≠ .saving ∧ (run (.restart hdr []) ready).operating = true ∧
      (run (.restart hdr []) ready).link.receiver = .replying ∧ (run (.restart hdr []) ready).link.restartPending = true ∧
      (run (.identify hdr []) ready).link.receiver = .replying ∧ (run (.identify hdr []) ready).link.restartPending = false ∧
      ready.link.receiver ≠ .replying := by decide +kernel

theorem witness_PartComesOutOfRestart :
    let off := run .powerLoss (shelf lane13)
    let low := run .resetNLow (shelf lane13)
    let both := run .powerLoss low
    off.power.supplyUp = false ∧ off.power.resetLow = false ∧ low.power.supplyUp = true ∧ low.power.resetLow = true ∧
      both.power.supplyUp = false ∧ both.power.resetLow = true ∧ ready.power.supplyUp = true ∧ ready.power.resetLow = false := by
  decide +kernel

theorem witness_HeldPartDrivesAndTakesNothing :
    let low := run .resetNLow (shelf lane13)
    let off := run .powerLoss savingState
    ready.power.resetLow = false ∧ low.power.resetLow = true ∧ savingState.power.supplyUp = true ∧
      savingState.store.save = .saving ∧ off.power.supplyUp = false ∧ low.operating = false ∧ off.operating = false ∧
      wellFormed (.tick (plainTick 0)) = true := by decide +kernel

theorem witness_LaneRequestsAreCheckedInOrder :
    Hears (shelf lane13) hdr ∧ (shelf lane13).store.save ≠ .saving ∧ ([48] : List Byte).length ∈ payloadSizes (17 : Byte).toNat ∧
      47 < (48 : Byte).toNat ∧ (13 : Byte).toNat = (13 : LaneId).val ∧ (ready.lane 13).state = .off ∧
      ((capturing (capture13 .zero 0 1 true)).lane 13).state = .capture ∧ Hears (capturing (capture13 .zero 0 1 true)) hdr ∧
      Hears holding hdr ∧ (holding.lane 13).state ≠ .off ∧ (holding.lane 13).state ≠ .capture ∧ holding.held 13 ≠ none ∧
      Hears (shelf suspended13) hdr ∧ ((shelf suspended13).lane 13).binding.suspended = true ∧
      ((shelf lane13).lane 13).binding.suspended = false ∧ u16 0 0 = 0 ∧ 60000 < u16 234 97 ∧ u16 0 12 ≤ u16 0 12 ∧
      10000 < u16 39 17 ∧ 7 < (8 : Byte).toNat ∧ 5 < (6 : Byte).toNat := by decide +kernel

theorem witness_BindFromOffSetsUpTheLane :
    Hears ready hdr ∧ ready.store.save ≠ .saving ∧ (ready.lane 47).state = .off ∧ 1 ≤ 1 ∧ 60000 ≤ 60000 ∧ 65535 < 65536 ∧
      9999 < 10000 ∧ 0 < 1 := by decide +kernel

theorem witness_BindInPlaceKeepsTheLane :
    Hears (lowCalling .raised) hdr ∧ (lowCalling .raised).store.save ≠ .saving ∧ ((lowCalling .raised).lane 13).state ≠ .off ∧
      ((lowCalling .raised).lane 13).state ≠ .capture ∧ LevelAgrees ((lowCalling .raised).lane 13) ∧
      LevelAgrees ((shelf lane13).lane 13) ∧ Hears (shelf lane13) hdr ∧ ((shelf lane13).lane 13).committed.level = .ok ∧
      ((lowCalling .raised).lane 13).committed.level = .low ∧ ((lowCalling .raised).lane 13).committed.count = 12 ∧
      ((lowCalling .raised).lane 13).binding.lowClass ≠ 0 := by decide +kernel

/-- A part whose table is full, lane 13's FAULT call in state `st` in slot 13 and another lane's everywhere else, with a FAULT marker
each on the lanes 40 and 41, which are in FAULT. -/
def waiting (st : CallState) : State :=
  ((((fullTable.putCall 13 (callIn st .fault 1)).putLane 40 (inState .fault)).putLane 41 (inState .fault)).mark 40 .fault 1).mark
    41 .fault 1

theorem witness_UnbindFreesTheLane :
    let s := waiting .taken
    Hears s hdr ∧ s.store.save ≠ .saving ∧ (s.lane 13).state ≠ .off ∧ (s.lane 13).state ≠ .capture ∧ s.held 13 = none ∧
      MarkerSourceLaw s ∧ s.callAt 13 = some (callIn .taken .fault 1) := by decide +kernel

theorem witness_SetLaneWeighingClamps :
    Hears (shelf lane13) hdr ∧ (shelf lane13).store.save ≠ .saving ∧ ((shelf lane13).lane 13).state ≠ .off ∧
      ((shelf lane13).lane 13).state ≠ .capture ∧ 0 < 65536 ∧ 65535 < 65536 := by decide +kernel

theorem witness_SuspendFreesRaisedCalls :
    let s := waiting .raised
    Hears s hdr ∧ s.store.save ≠ .saving ∧ (s.lane 13).state ≠ .off ∧ (s.lane 13).state ≠ .capture ∧
      (s.lane 13).binding.suspended = false ∧ MarkerSourceLaw s ∧ s.callAt 13 = some (callIn .raised .fault 1) := by decide +kernel

theorem witness_ResumeSweepsTheLane :
    let s := shelf { suspended13 with committed := { lane13.committed with count := 0, level := .empty } }
    Hears s hdr ∧ s.store.save ≠ .saving ∧ (s.lane 13).state ≠ .off ∧ (s.lane 13).state ≠ .capture ∧
      (s.lane 13).binding.suspended = true ∧ sourceAsserted (s.lane 13) .restock = true ∧ s.callAt 0 = none := by decide +kernel

/-- R135: the entry that an unbinding frees goes to the lower of the two marked lanes of one class; the other marker stays. -/
theorem test_unbind_places :
    let u := run (.unbindLane hdr [13]) (waiting .taken)
    u.callAt 13 = some (raisedCall (waiting .taken) 40 .fault 1) ∧ u.marker 40 = Markers.clear ∧
      (u.marker 41).fault = true := by decide +kernel

/-- R145: with both needs on one lane and one free entry, the more urgent class takes it (the FAULT class 1 before the empty
class 2), and the other need is marked. -/
theorem test_resume_order :
    let l := { suspended13 with state := .fault, committed := { lane13.committed with count := 0, level := .empty } }
    let u := run (.resumeLane hdr [13]) ((fullTable.putLane 13 l).freeWhere fun c => c.lane == 13 || c.lane == 20)
    let v := run (.resumeLane hdr [13]) ((fullTable.putLane 13 l).freeWhere fun c => c.lane == 13)
    (u.callAt 13).map Call.cause = some .fault ∧ (u.callAt 20).map Call.cause = some .restock ∧
      (v.callAt 13).map Call.cause = some .fault ∧ (v.marker 13).restock = true := by decide +kernel

theorem witness_CaptureRequestsAreCheckedInOrder :
    let c := capturing (capture13 .zero 0 1 true)
    let f := shelf (inState .fault)
    Hears (shelf lane13) hdr ∧ (shelf lane13).store.save ≠ .saving ∧ 47 < (48 : Byte).toNat ∧ (ready.lane 13).state = .off ∧
      Hears c hdr ∧ (c.lane 13).state = .capture ∧ ((shelf lane13).lane 13).state ≠ .off ∧
      (∀ i : CaptureId, ∀ a, (shelf lane13).capture i = some a → a.lane ≠ 13) ∧ Hears f hdr ∧ (f.lane 13).state = .fault ∧
      ((shelf lane13).lane 13).state = .stable ∧ ((shelf lane13).lane 13).binding.suspended = false ∧
      Hears (shelf suspended13) hdr ∧ ((shelf suspended13).lane 13).binding.suspended = true ∧ (99#32).toInt < 100 ∧
      2000000 < (2000001#32).toInt ∧ 100 ≤ (100#32).toInt ∧ (2000000#32).toInt ≤ 2000000 ∧ Hears fullCaptures hdr ∧
      (fullCaptures.lane 13).state = .stable ∧ (∀ i : CaptureId, fullCaptures.capture i ≠ none) ∧
      (BitVec.ofInt 32 (-8388609)).toInt < -8388608 ∧ 8388607 < (8388608#32).toInt ∧ (0#32).toInt < 1 ∧
      4194304 < (4194305#32).toInt := by decide +kernel

theorem witness_CapturesBeginAndCancel :
    let c := capturing (capture13 .span 50000 1 false)
    Hears (shelf suspended13) hdr ∧ ((shelf suspended13).lane 13).state = .stable ∧ (shelf suspended13).capture 0 = none ∧
      (∀ j : CaptureId, j < 0 → (shelf suspended13).capture j ≠ none) ∧ ((shelf suspended13).lane 13).binding.suspended = true ∧
      100 ≤ (100#32).toInt ∧ (2000000#32).toInt ≤ 2000000 ∧ Hears c hdr ∧ (c.lane 13).state = .capture ∧
      c.capture 0 = some (capture13 .span 50000 1 false) ∧ (capture13 .span 50000 1 false).lane = 13 ∧
      (∀ j : CaptureId, ∀ d, c.capture j = some d → d.lane = 13 → j = 0) := by decide +kernel

theorem witness_SetCalibrationWrites :
    let s := shelf { lane13 with work := { lane13.work with drift := true } }
    Hears s hdr ∧ s.store.save ≠ .saving ∧ (s.lane 13).state ≠ .off ∧ (s.lane 13).state ≠ .capture ∧
      -8388608 ≤ (BitVec.ofInt 32 (-8388608)).toInt ∧ (8388607#32).toInt ≤ 8388607 ∧ 1 ≤ (1#32).toInt ∧
      (4194304#32).toInt ≤ 4194304 ∧ (s.lane 13).work.drift = true ∧ (s.lane 13).state ≠ .fault ∧
      ((shelf lane13).lane 13).work.drift = false := by decide +kernel

theorem witness_LaneReportsShowTheRecords : Hears savingState hdr := by decide +kernel

theorem witness_RecordsHaveTheirLayouts :
    65535 < 65536 ∧ (-2147483648 : Int) ≤ -2147483648 ∧ (2147483647 : Int) ≤ 2147483647 ∧
      (callIn .raised .restock 3).state = .raised ∧ (callIn .taken .restock 3).state = .taken ∧
      (callIn .satisfied .restock 3).state = .satisfied := by decide

theorem witness_ReadMovesAndClearJournal : Hears holding hdr := by decide +kernel

theorem witness_RemoveMovesDrainsTheHolds :
    Hears holding hdr ∧ JournalLaw holding ∧ 0 < min (255 : Byte).toNat holding.journal.length ∧
      min (0 : Byte).toNat holding.journal.length = 0 ∧ holding.held 13 ≠ none := by decide +kernel

theorem witness_MovementsEnterOrMerge :
    (shelf lane13).journal.length < 128 ∧ fullJournal.journal.length = 128 ∧ fullJournal.held 13 = none ∧
      holding.journal.length = 128 ∧ holding.held 13 = some (movement 30140 .withdraw 29 26 (-37205) false) ∧
      (movement 0 .withdraw 10 9 0 false).after = (movement 0 .giveBack 9 10 0 false).before ∧
      (movement 0 .replenish 27 45 0 false).after ≠ (movement 0 .withdraw 29 27 0 false).before ∧
      (movement 0 .withdraw 45 30 0 false).kind = .withdraw := by decide +kernel

theorem witness_WatchRequestsReadAndWriteRules :
    let c : WatchConfig := { WatchConfig.factory with laneMode := .inside, laneHigh := 47, magnitudeHigh := 8000000, kinds := 15 }
    Hears (shelf lane13) hdr ∧ (shelf lane13).store.save ≠ .saving ∧ c.kinds = (255 : Byte).setWidth 4 ∧
      c.laneLow ≤ c.laneHigh ∧ c.magnitudeLow ≤ c.magnitudeHigh ∧ c.magnitudeHigh ≤ 8000000 ∧ 7 < (8 : Byte).toNat ∧
      1 < (2 : Byte).toNat ∧ 2 < (3 : Byte).toNat ∧ 47 < (48 : Byte).toNat ∧ ((1 : Byte) ≠ 0 ∧ (8 : Byte).toNat < (9 : Byte).toNat) ∧
      (BitVec.ofInt 32 (-1)).toInt < 0 ∧ 8000000 < (8000001#32).toInt ∧ (0#32).toInt < (1#32).toInt := by decide +kernel

theorem witness_WatchRulesCountAndHit :
    let r : WatchRule := { hits := 65535, config := { WatchConfig.factory with
      enabled := true, laneLow := 13, kinds := 1, magnitudeLow := 5, magnitudeHigh := 5, action := .raise } }
    ruleHits r (movement 0 .withdraw 17 12 (-62009) false) ∧ ¬ruleHits r (movement 0 .withdraw 17 11 (-62009) false) ∧
      r.config.action = .raise := by
  refine ⟨⟨rfl, rfl, rfl, 5, (by decide : ((5 : Nat) : Int) = |((12 : Nat) : Int) - ((17 : Nat) : Int)|),
    (by decide : 5 ≤ 5 ∧ 5 ≤ 5)⟩, ?_, rfl⟩
  rintro ⟨-, -, -, size, hsize, hrange⟩
  simp [movement, WatchConfig.factory] at hsize hrange
  omega

theorem witness_CallReportsShowTheTable :
    let s := calling lane13 (callIn .raised .restock 3)
    let t := calling lane13 (callIn .taken .restock 3)
    Hears s hdr ∧ Hears t hdr ∧
      (∀ i : SlotId, ∀ a, t.callAt i = some a → (a.state == .raised && !(t.cls a.cls).masked) = false) ∧
      s.callAt 4 = some (callIn .raised .restock 3) ∧ (s.cls 3).masked = false ∧
      (∀ j : SlotId, ∀ b, s.callAt j = some b → (b.state == .raised && !(s.cls b.cls).masked) = true → j ≠ 4 →
        offersBefore s 4 (callIn .raised .restock 3) j b) ∧ 31 < (32 : Byte).toNat := by decide +kernel

theorem witness_CallIdsAreCheckedAndTaken :
    let s := calling lane13 (callIn .raised .restock 3)
    let t := calling lane13 (callIn .taken .restock 3)
    Hears s hdr ∧ Hears t hdr ∧ 31 < (32 : Byte).toNat ∧ s.callAt 31 = none ∧ (s.entry 4).generation ≠ 6 ∧
      s.callAt 4 = some (callIn .raised .restock 3) ∧ (s.entry 4).generation = 7 ∧
      t.callAt 4 = some (callIn .taken .restock 3) ∧ (t.entry 4).generation = 7 := by decide +kernel

theorem witness_CloseCallFreesOrReturns :
    let s := lowCalling .taken
    let t := calling lane13 (callIn .satisfied .restock 3)
    Hears s hdr ∧ s.callAt 4 = some (callIn .taken .restock 3) ∧ (callIn .taken .restock 3).state ≠ .raised ∧
      (s.lane 13).binding.suspended = false ∧ sourceAsserted (s.lane 13) .restock = true ∧ Hears t hdr ∧
      t.callAt 4 = some (callIn .satisfied .restock 3) := by decide +kernel

theorem witness_ClearCallsStartsAfresh :
    Hears (lowCalling .taken) hdr ∧ ((lowCalling .taken).lane 13).state ≠ .off ∧
      sourceAsserted ((lowCalling .taken).lane 13) .restock = true := by decide +kernel

theorem witness_SourceAssertionsRaiseOrAct :
    CallsDistinct (lowCalling .satisfied) ∧ (lowCalling .satisfied).callAt 4 = some (callIn .satisfied .restock 3) ∧
      (∀ i : SlotId, ∀ a, (shelf lane13).callAt i = some a → ¬(a.lane = 13 ∧ a.cause = .restock)) ∧
      (((shelf lane13).mark 13 .watch 3).marker 13).has .watch = true ∧ ((shelf lane13).marker 13).has .restock = false ∧
      (ready.lane 13).state = .off ∧ ((shelf lane13).lane 13).state ≠ .off ∧
      ((shelf lane13).lane 13).binding.suspended = false ∧ (shelf lane13).callAt 0 = none ∧
      (∀ i : SlotId, fullTable.callAt i ≠ none) ∧ (fullTable.marker 13).has .restock = false := by
  exact ⟨distinct_of_keys _ (by decide +kernel), by decide +kernel⟩

theorem witness_SourceClearancesRetire :
    Cause.restock ≠ .watch ∧ (CallsDistinct (lowCalling .raised) ∧ (lowCalling .raised).callAt 4 = some (callIn .raised .restock 3)) ∧
      (CallsDistinct (lowCalling .taken) ∧ (lowCalling .taken).callAt 4 = some (callIn .taken .restock 3)) ∧
      (CallsDistinct (lowCalling .satisfied) ∧ (lowCalling .satisfied).callAt 4 = some (callIn .satisfied .restock 3)) ∧
      (CallsDistinct (shelf lane13) ∧
        ∀ i : SlotId, ∀ a, (shelf lane13).callAt i = some a → ¬(a.lane = 13 ∧ a.cause = .restock)) := by
  exact ⟨by decide, ⟨distinct_of_keys _ (by decide +kernel), by decide +kernel⟩,
    ⟨distinct_of_keys _ (by decide +kernel), by decide +kernel⟩, ⟨distinct_of_keys _ (by decide +kernel), by decide +kernel⟩,
    distinct_of_keys _ (by decide +kernel), by decide +kernel⟩

/-- A part with two FAULT markers and one free entry, its two marked lanes in FAULT. -/
def marked : State :=
  ((((fullTable.putLane 40 (inState .fault)).putLane 41 (inState .fault)).mark 40 .fault 1).mark 41 .fault 1).freeEntry 9

theorem witness_PlacementFillsFreeEntries :
    MarkerSourceLaw marked ∧ marked.callAt 9 = none ∧ marked.place.callAt 9 = some (raisedCall marked 40 .fault 1) ∧
      (marked.place.marker 41).has .fault = true ∧ carriedClass marked 41 .fault = some 1 := by decide +kernel

theorem witness_ClassRequestsReadAndWriteRecords :
    Hears (shelf lane13) hdr ∧ (shelf lane13).store.save ≠ .saving ∧ 65535 < 65536 ∧ 7 < (8 : Byte).toNat ∧
      1 < (2 : Byte).toNat := by decide +kernel

theorem witness_BayRequestsReadAndWriteBays :
    Hears (shelf lane13) hdr ∧ (shelf lane13).store.save ≠ .saving ∧ 65535 < 65536 ∧ 5 < (6 : Byte).toNat ∧
      7 < (8 : Byte).toNat ∧ 1 < (2 : Byte).toNat ∧ 4 < (5 : Byte).toNat := by decide +kernel

theorem witness_WindowRequestsOpenAndClose :
    Hears (shelf lane13) hdr ∧ 65535 < 65536 ∧ ((shelf lane13).bay 1).window = none ∧
      Hears (withBay1 (keyed .idle 0 false (some 1))) hdr ∧
      ((withBay1 (keyed .idle 0 false (some 1))).bay 1).window ≠ none ∧ 5 < (6 : Byte).toNat := by decide +kernel

theorem witness_TicksRunTheCallTimers :
    let s (a : Call) := calling lane13 a
    (s (callIn .raised .restock 3)).operating = true ∧
      (s (callIn .raised .restock 3)).callAt 4 = some (callIn .raised .restock 3) ∧
      (callIn .raised .restock 3).aging = some 1 ∧ ((s (callIn .raised .restock 3)).cls 3).masked = false ∧
      ({ callIn .raised .restock 3 with aging := some 2 } : Call).aging = some (0 + 2) ∧
      (s { callIn .raised .restock 3 with nag := 5, cls := 4 }).callAt 4 = some { callIn .raised .restock 3 with nag := 5, cls := 4 } ∧
      ((s (callIn .raised .restock 3)).cls 4).escalateAfter ≤ min 15 (5 + 1) ∧ (callIn .taken .restock 3).service = some 1 ∧
      (s (callIn .taken .restock 3)).callAt 4 = some (callIn .taken .restock 3) ∧
      (s (callIn .satisfied .restock 3)).callAt 4 = some (callIn .satisfied .restock 3) ∧
      (∀ i : SlotId, ∀ a, (s (callIn .raised .restock 3)).callAt i = some a → a.aging ≠ some 0) := by decide +kernel

theorem witness_TicksRunTheCaptureTimeouts :
    let s := capturing (capture13 .zero 0 1 true)
    s.operating = true ∧ CaptureLaw s ∧ s.capture 0 = some (capture13 .zero 0 1 true) ∧ s.capture 1 = none ∧
      (capture13 .zero 0 2 true).remaining = 0 + 2 ∧ (∀ i : CaptureId, ∀ c, s.capture i = some c → c.lane = 12 → 2 ≤ c.remaining) := by
  exact ⟨by decide +kernel, ⟨by decide +kernel, captures_of_lanes _ (by decide +kernel)⟩, by decide +kernel⟩

theorem witness_TicksRunWindowsAndKeys :
    (withBay1 (keyed .idle 0 false (some 1))).operating = true ∧
      ((withBay1 (keyed .idle 0 false (some 1))).bay 1).window = some 1 ∧
      ((withBay1 (keyed .down 19 false (some 2))).bay 1).settings.keyEnabled = true ∧
      ((withBay1 (keyed .down 19 false (some 2))).bay 1).settings.longPress ≤ 19 + 1 ∧ (plainTick 2).keysDown.getLsbD 1 = true ∧
      (plainTick 0).keysDown.getLsbD 1 = false ∧ ((withBay1 (keyed .lettingGo 100 true none)).bay 1).key.hold ≤ 100 ∧
      ((withBay1 (keyed .arming 0 false none)).bay 1).key.state = .arming ∧ ((shelf lane13).lane 13).binding.bay = 1 := by
  decide +kernel

theorem witness_TicksSelectTheLamps :
    let o : LampOverride := { display := .steady, remaining := some 1 }
    let s := calling lane13 (callIn .raised .restock 3)
    s.operating = true ∧ (s.bay 1).forced = none ∧ BayCall s 1 (fun c => c.state = .raised ∧ (s.cls c.cls).masked = false) ∧
      ((withBay1 { keyed .idle 0 false none with forced := some o }).bay 1).forced = some o ∧
      Display.call = [Display.fault, .urgent, .window, .call, .taken][(3 : PatternId)] := by
  exact ⟨by decide +kernel, by decide +kernel, ⟨4, callIn .raised .restock 3, by decide +kernel⟩, by decide +kernel, rfl⟩

theorem witness_RoundsVisitTheBoundLanes :
    let s := shelf { inState .moving with binding := lane13.binding }
    s.operating = true ∧ s.scan = some { lane := 13, second := false } ∧ ready.scan = none ∧
      ((run (.conversion (sound 4251213)) s).lane 13).state = .stable ∧
      ((run (.conversion (sound 0)) s).lane 13).state = .moving := by decide +kernel

theorem witness_NormalConversionsFollowTheLoad :
    Visits (shelf lane13) 13 ∧ NormalReading (sound 4251230) 4251230 ∧ ((shelf lane13).lane 13).state = .stable ∧
      FilterOf ((shelf lane13).lane 13) 4251230 4251215 41 ∧ NormalReading (sound (-8388607)) (-8388607) ∧
      FilterOf ((shelf lane13).lane 13) (-8388607) (-8388607) 0 ∧
      FilterOf ((shelf { settling with work := { settling.work with calm := 6 } }).lane 13) 3011108 3011108 7 ∧ 7 < 8 := by
  decide +kernel

theorem witness_AbnormalConversionsBringFault :
    let r := sound 8388607
    let s := shelf { inState .moving with work := { lane13.work with abnormalRun := 2 } }
    let c := (capturing (capture13 .zero 0 1 true)).putLane 13 { inState .capture with work := { lane13.work with abnormalRun := 2 } }
    Visits s 13 ∧ (s.lane 13).work.abnormalRun ≤ 3 ∧ r.lowCurrent = false ∧ r.raw.toInt = 8388607 ∧
      (s.lane 13).state = .moving ∧ (∀ i : CaptureId, ∀ a, s.capture i = some a → a.lane ≠ 13) ∧
      Visits (shelf lane13) 13 ∧ ((shelf lane13).lane 13).state = .stable ∧ ((shelf lane13).lane 13).work.abnormalRun < 2 ∧
      Visits c 13 ∧ (c.lane 13).state = .capture ∧ c.capture 0 = some (capture13 .zero 0 1 true) ∧
      (∀ j : CaptureId, ∀ d, c.capture j = some d → d.lane = 13 → j = 0) ∧ Visits (shelf (inState .fault)) 13 ∧
      ((shelf (inState .fault)).lane 13).state = .fault ∧ ({ raw := 0, lowCurrent := true } : Reading).lowCurrent = true := by
  decide +kernel

theorem witness_FaultRecoversAtTheEighth :
    let s := shelf { inState .fault with work := { lane13.work with recoveryRun := 7 } }
    Visits s 13 ∧ NormalReading (sound 8388606) 8388606 ∧ (s.lane 13).state = .fault ∧ 7 ≤ (s.lane 13).work.recoveryRun ∧
      Visits (shelf (inState .fault)) 13 ∧ ((shelf (inState .fault)).lane 13).work.recoveryRun < 7 := by decide +kernel

theorem witness_LevelsFollowTheMarks :
    12 < 30 ∧ 1 ≤ 12 ∧ 12 ≤ 12 ∧ 12 < 13 ∧ 29 < 30 ∧ 30 ≤ 30 ∧ (lowCalling .taken).callAt 4 = some (callIn .taken .restock 3) ∧
      (∀ i : SlotId, ∀ a, (shelf lane13).callAt i = some a → ¬(a.lane = 13 ∧ a.cause = .restock)) := by decide +kernel

theorem witness_PlateausCommit :
    let s (l : Lane) := shelf l
    let baseline := { settling with binding := { settling.binding with baselineNeeded := true } }
    let suspended := { settling with binding := { settling.binding with suspended := true } }
    Visits (s settling) 13 ∧ NormalReading (sound 3011108) 3011108 ∧ ((s settling).lane 13).state = .moving ∧
      FilterOf ((s settling).lane 13) 3011108 3011108 8 ∧
      |(3011108 : Int) - ((s settling).lane 13).work.filtered| ≤ ((s settling).lane 13).weighing.jump ∧
      ((s settling).lane 13).weighing.settle ≤ 8 ∧ ((s settling).lane 13).binding.suspended = false ∧
      ((s settling).lane 13).binding.baselineNeeded = false ∧ FilterOf ((s baseline).lane 13) 3011108 3011108 8 ∧
      ((s baseline).lane 13).binding.baselineNeeded = true ∧ FilterOf ((s suspended).lane 13) 3011108 3011108 8 ∧
      ((s suspended).lane 13).binding.suspended = true ∧ FilterOf ((s (bare 42050 41998)).lane 13) 42050 42050 8 ∧
      EstimateOf 42050 41998 3277 12400 60 3 0 true := by decide +kernel

theorem witness_CapturesSettleAndComplete :
    let s := capturing (capture13 .zero 0 1 false)
    let t := capturing (capture13 .span 50000 1 false)
    let u := capturing (capture13 .zero 0 1 true)
    Visits s 13 ∧ NormalReading (sound 4251213) 4251213 ∧ (s.lane 13).state = .capture ∧
      s.capture 0 = some (capture13 .zero 0 1 false) ∧ (∀ j : CaptureId, ∀ d, s.capture j = some d → d.lane = 13 → j = 0) ∧
      FilterOf (s.lane 13) 4251213 4251213 16 ∧ max (s.lane 13).weighing.settle 16 ≤ 16 ∧ Visits t 13 ∧
      t.capture 0 = some (capture13 .span 50000 1 false) ∧ u.capture 0 = some (capture13 .zero 0 1 true) ∧
      FilterOf (s.lane 13) 0 0 0 ∧ 0 < max (s.lane 13).weighing.settle 16 := by decide +kernel

theorem witness_StepsKeepTheCallTable :
    let s := lowCalling .taken
    CallTableLaw (queued (.closeCall hdr [4, 7]) s) ∧
      step (queued (.closeCall hdr [4, 7]) s) = .next (run (.closeCall hdr [4, 7]) s) := by
  exact ⟨⟨distinct_of_keys _ (by decide +kernel), markers_of_clear _ (by decide +kernel)⟩, rfl⟩

theorem witness_StepsKeepJournalLinkAndStore :
    step (queued (.removeMoves hdr [1]) holding) = .next (run (.removeMoves hdr [1]) holding) ∧
      JournalLaw (queued (.removeMoves hdr [1]) holding) ∧ RecordsLaw (queued (.removeMoves hdr [1]) holding) ∧
      ReplyLaw (queued (.removeMoves hdr [1]) holding) ∧ SaveLaw (queued (.removeMoves hdr [1]) holding) := by
  exact ⟨rfl, by decide +kernel⟩

theorem witness_StepsKeepTheLaneStanding :
    let s := capturing (capture13 .zero 0 1 false)
    let c := Instr.cancelCapture hdr [13]
    step (queued c s) = .next (run c s) ∧ QuietLanes (queued c s) ∧ JournalLaw (queued c s) ∧ OffLaw (queued c s) ∧
      CaptureLaw (queued c s) := by
  exact ⟨rfl, quiet_of_clear _ (by decide +kernel) (by decide +kernel), by decide +kernel, by decide +kernel,
    by decide +kernel, captures_of_lanes _ (by decide +kernel)⟩

theorem witness_StepsKeepZeroAndLevel :
    let s := shelf lane13
    let c := Instr.bindLane hdr (bindPayload 8 17)
    step (queued c s) = .next (run c s) ∧ ZeroLaw (queued c s) ∧ LevelLaw (queued c s) ∧ ImageLaw (queued c s) := by
  exact ⟨rfl, by decide +kernel, by decide +kernel, by
    rintro i (h | h) <;> exact absurd (show (none : Option Image) = some i from h) (by simp)⟩

/-- The RESTOCK, FAULT and WATCH clauses of the law at the one call of a table, from their decidable form. -/
theorem sources_of_call (s : State) (a : Call) (h : ∀ i : SlotId, ∀ b, s.callAt i = some b → b = a)
    (hc : a.cause = .restock) (hs : a.state ≠ .satisfied) (hl : (s.lane a.lane).committed.level = .low) : CallSourceLaw s := by
  intro i b hb
  obtain rfl := h i b hb
  rw [hc]
  exact ⟨fun k => absurd k hs, fun _ => .inl hl⟩

theorem witness_StepsKeepCallsWithTheirSources :
    let s := lowCalling .taken
    let c := Instr.closeCall hdr [4, 7]
    CallTableLaw (queued c s) ∧ QuietLanes (queued c s) ∧ OffLaw (queued c s) ∧ CaptureLaw (queued c s) ∧
      LevelLaw (queued c s) ∧ CallSourceLaw (queued c s) ∧ MarkerSourceLaw (queued c s) ∧ step (queued c s) = .next (run c s) := by
  exact ⟨⟨distinct_of_keys _ (by decide +kernel), markers_of_clear _ (by decide +kernel)⟩,
    quiet_of_clear _ (by decide +kernel) (by decide +kernel), by decide +kernel, ⟨by decide +kernel, captures_of_lanes _ (by decide +kernel)⟩, by decide +kernel,
    sources_of_call _ (callIn .taken .restock 3) (by decide +kernel) rfl (by decide) (by decide +kernel), by decide +kernel, rfl⟩

theorem witness_CallsNeverBecomeLessUrgent :
    let s := calling lane13 { callIn .raised .restock 4 with nag := 5 }
    let c := Instr.tick (plainTick 0)
    step (queued c s) = .next (run c s) ∧ (queued c s).callAt 4 = some { callIn .raised .restock 4 with nag := 5 } ∧
      (run c s).callAt 4 = some { callIn .raised .restock 3 with aging := some 600 } ∧
      ((run c s).entry 4).generation = ((queued c s).entry 4).generation := by
  exact ⟨rfl, by decide +kernel⟩

end Sys2Proof.Tests
end

section
/-! SUPPORT. The placement order, raising and placement as lists of pairs: the shared layer over the
call table (R126, R133 to R135). -/

namespace Sys2Proof.Machine

/-! ### Markers, cause by cause (R134) -/

theorem Markers.has_unmark (m : Markers) (c d : Cause) : (m.unmark c).has d = (m.has d && c != d) := by
  cases c <;> cases d <;> simp [Markers.unmark, Markers.has]

theorem Markers.has_mark (m : Markers) (c d : Cause) (k : ClassId) : (m.mark c k).has d = (m.has d || c == d) := by
  cases c <;> cases d <;> simp [Markers.mark, Markers.has]

@[simp] theorem Markers.has_clear (c : Cause) : Markers.clear.has c = false := by cases c <;> rfl

theorem Markers.eq_clear {m : Markers} (h : ∀ c, m.has c = false) : m = Markers.clear := by
  obtain ⟨r, f, w⟩ := m
  have hr : r = false := h .restock
  have hf : f = false := h .fault
  have hw : w.isSome = false := h .watch
  simp_all [Markers.clear]

theorem State.has_unmark {s : State} {n m : LaneId} {c d : Cause} :
    ((s.unmark n c).marker m).has d = true ↔ (s.marker m).has d = true ∧ ¬(n = m ∧ c = d) := by
  unfold State.unmark
  by_cases e : m = n
  · subst e; simp [Markers.has_unmark]
  · simp [e, Ne.symm e]

theorem State.has_mark {s : State} {n m : LaneId} {c d : Cause} {k : ClassId} :
    ((s.mark n c k).marker m).has d = true ↔ (s.marker m).has d = true ∨ (n = m ∧ c = d) := by
  unfold State.mark
  by_cases e : m = n
  · subst e; simp [Markers.has_mark]
  · simp [e, Ne.symm e]

/-- A WATCH marker that survives holds the class it held. -/
theorem State.watch_unmark {s : State} {n m : LaneId} {c : Cause} {k : ClassId}
    (h : ((s.unmark n c).marker m).watch = some k) : (s.marker m).watch = some k := by
  unfold State.unmark at h
  by_cases e : m = n
  · subst e
    cases c <;> simp [Markers.unmark] at h <;> exact h
  · simpa [e] using h

/-! ### Needs and the placement order (R135, R145) -/

theorem mem_placementOrder {l : List Need} {x : Need} : x ∈ placementOrder l ↔ x ∈ l := by
  simp [placementOrder]

theorem placementOrder_filter (l : List Need) (p : Need → Bool) :
    placementOrder (l.filter p) = (placementOrder l).filter p := by
  simp [placementOrder, List.filter_flatMap, List.filter_filter, Bool.and_comm]

/-- Within one class: the lower lane, then FAULT, RESTOCK, WATCH. -/
def Need.Ahead (x y : Need) : Prop :=
  x.lane < y.lane ∨ x.lane = y.lane ∧ causeRank x.cause < causeRank y.cause

/-- The placement order on needs (R135, R145). -/
abbrev Need.Before (x y : Need) : Prop :=
  placedBefore x.lane x.cause x.cls y.lane y.cause y.cls = true

theorem Need.before_iff {x y : Need} : x.Before y ↔ x.cls < y.cls ∨ x.cls = y.cls ∧ x.Ahead y := by
  simp [Need.Before, placedBefore, Need.Ahead]

/-- Of two needs of one lane and cause neither is ahead. -/
theorem Need.not_ahead_of_key {x y : Need} (hl : x.lane = y.lane) (hc : x.cause = y.cause) : ¬x.Ahead y := by
  simp [Need.Ahead, hl, hc]

theorem placementOrder_pairwise {l : List Need} (h : l.Pairwise Need.Ahead) : (placementOrder l).Pairwise Need.Before := by
  rw [placementOrder, List.pairwise_flatMap]
  refine ⟨fun c _ => ?_, (List.pairwise_lt_finRange 8).imp fun {c d} hcd x hx y hy => ?_⟩
  · refine List.Pairwise.imp_of_mem (fun {x y} hx hy hxy => Need.before_iff.mpr (.inr ⟨?_, hxy⟩)) (h.filter _)
    have hx := (List.mem_filter.mp hx).2
    have hy := (List.mem_filter.mp hy).2
    simp only [beq_iff_eq] at hx hy
    rw [hx, hy]
  · have hx := (List.mem_filter.mp hx).2
    have hy := (List.mem_filter.mp hy).2
    simp only [beq_iff_eq] at hx hy
    exact Need.before_iff.mpr (.inl (hx ▸ hy ▸ hcd))

/-- The class in which a set marker or a source of lane `n` and cause `c` is placed now (R135, R145). -/
def State.needClass (s : State) (n : LaneId) : Cause → ClassId
  | .restock => (s.lane n).restockClass
  | .fault => s.device.faultClass
  | .watch => (s.marker n).watch.getD 0

theorem State.needClass_of_carriedClass {s : State} {n : LaneId} {c : Cause} {k : ClassId} (h : carriedClass s n c = some k) :
    s.needClass n c = k := by
  cases c with
  | restock =>
    unfold carriedClass at h
    cases e : (s.lane n).committed.level <;> simp [e] at h <;> simp [State.needClass, Lane.restockClass, e, h]
  | fault => simpa [carriedClass, State.needClass] using h
  | watch => simp_all [carriedClass, State.needClass]

theorem State.carriedClass_of_asserted {s : State} {n : LaneId} {c : Cause} (h : sourceAsserted (s.lane n) c = true) :
    carriedClass s n c = some (s.needClass n c) := by
  cases c with
  | restock =>
    simp only [sourceAsserted, Bool.or_eq_true, beq_iff_eq] at h
    rcases h with h | h <;> simp [carriedClass, State.needClass, Lane.restockClass, h]
  | fault => rfl
  | watch => cases h

theorem State.carriedClass_of_marked {s : State} (hs : MarkerSourceLaw s) {n : LaneId} {c : Cause}
    (h : (s.marker n).has c = true) : carriedClass s n c = some (s.needClass n c) := by
  cases c with
  | restock => exact State.carriedClass_of_asserted (by simpa [sourceAsserted] using (hs n).1 h)
  | fault => rfl
  | watch =>
    obtain ⟨k, hk⟩ := Option.isSome_iff_exists.mp h
    simp [carriedClass, State.needClass, hk]

theorem State.mem_markedNeeds {s : State} {n : LaneId} {x : Need} :
    x ∈ s.markedNeeds n ↔ x.lane = n ∧ (s.marker n).has x.cause = true ∧ x.cls = s.needClass n x.cause := by
  obtain ⟨m, c, k⟩ := x
  unfold State.markedNeeds
  cases hf : (s.marker n).fault <;> cases hr : (s.marker n).restock <;> cases hw : (s.marker n).watch <;> cases c <;>
    simp [Markers.has, State.needClass, hf, hr, hw, and_comm]

theorem State.mem_sweptNeeds {s : State} {n : LaneId} {x : Need} :
    x ∈ s.sweptNeeds n ↔ x.lane = n ∧ s.unmet n x.cause = true ∧ x.cls = s.needClass n x.cause := by
  obtain ⟨m, c, k⟩ := x
  have hw : s.unmet n .watch = false := by simp [State.unmet, Lane.asserts]
  unfold State.sweptNeeds
  cases hf : s.unmet n .fault <;> cases hr : s.unmet n .restock <;> cases c <;>
    simp [State.needClass, hf, hr, hw, and_comm]

theorem State.markedNeeds_pairwise (s : State) (n : LaneId) : (s.markedNeeds n).Pairwise Need.Ahead := by
  unfold State.markedNeeds
  cases (s.marker n).fault <;> cases (s.marker n).restock <;> cases (s.marker n).watch <;>
    simp [Need.Ahead, causeRank]

theorem State.sweptNeeds_pairwise (s : State) (n : LaneId) : (s.sweptNeeds n).Pairwise Need.Ahead := by
  unfold State.sweptNeeds
  cases s.unmet n .fault <;> cases s.unmet n .restock <;> simp [Need.Ahead, causeRank]

/-- The needs of single lanes, taken by ascending lane, are in order within each class. -/
theorem pairwise_flatMap_lanes {lanes : List LaneId} (hl : lanes.Pairwise (· < ·)) {f : LaneId → List Need}
    (hf : ∀ n, ∀ x ∈ f n, x.lane = n) (hp : ∀ n, (f n).Pairwise Need.Ahead) : (lanes.flatMap f).Pairwise Need.Ahead := by
  rw [List.pairwise_flatMap]
  refine ⟨fun n _ => hp n, hl.imp fun {n m} hnm x hx y hy => .inl ?_⟩
  rw [hf n x hx, hf m y hy]
  exact hnm

/-- The set markers in the placement order. -/
def State.needs (s : State) : List Need :=
  placementOrder ((List.finRange 48).flatMap s.markedNeeds)

theorem State.mem_needs {s : State} {x : Need} :
    x ∈ s.needs ↔ (s.marker x.lane).has x.cause = true ∧ x.cls = s.needClass x.lane x.cause := by
  simp only [State.needs, mem_placementOrder, List.mem_flatMap, List.mem_finRange, true_and, State.mem_markedNeeds]
  constructor
  · rintro ⟨n, rfl, h⟩; exact h
  · intro h; exact ⟨_, rfl, h⟩

theorem State.needs_pairwise (s : State) : s.needs.Pairwise Need.Before :=
  placementOrder_pairwise (pairwise_flatMap_lanes (List.pairwise_lt_finRange 48)
    (fun _ _ hx => (State.mem_markedNeeds.mp hx).1) s.markedNeeds_pairwise)

/-- The free entries from the lowest on (R126). -/
def State.freeSlots (s : State) : List SlotId :=
  (List.finRange 32).filter fun i => (s.callAt i).isNone

theorem State.mem_freeSlots {s : State} {i : SlotId} : i ∈ s.freeSlots ↔ s.callAt i = none := by
  simp [State.freeSlots]

theorem State.freeSlots_pairwise (s : State) : s.freeSlots.Pairwise (· < ·) :=
  (List.pairwise_lt_finRange 32).filter _

theorem State.freeSlot_eq_head (s : State) : s.freeSlot = s.freeSlots.head? := by
  simp [State.freeSlot, State.freeSlots, List.head?_filter]

/-! ### Raising (R126, R133) -/

@[simp] theorem State.callAt_noteNewCall (s : State) (k : ClassId) (i : SlotId) : (s.noteNewCall k).callAt i = s.callAt i := by
  unfold State.noteNewCall; split <;> rfl

@[simp] theorem State.entry_noteNewCall (s : State) (k : ClassId) (i : SlotId) : (s.noteNewCall k).entry i = s.entry i := by
  unfold State.noteNewCall; split <;> rfl

@[simp] theorem State.marker_noteNewCall (s : State) (k : ClassId) (n : LaneId) : (s.noteNewCall k).marker n = s.marker n := by
  unfold State.noteNewCall; split <;> rfl

theorem State.newCall_noteNewCall {s : State} {k : ClassId} :
    (s.noteNewCall k).attention.newCall = true ↔ s.attention.newCall = true ∨ (s.cls k).masked = false := by
  change (if (s.cls k).masked then s else s.notify fun a => { a with newCall := true }).attention.newCall = true ↔ _
  cases (s.cls k).masked <;> simp

section
variable (s : State) (i j : SlotId) (n m : LaneId) (c : Cause) (k : ClassId)

theorem State.callAt_raiseAt : (s.raiseAt i n c k).callAt j = if j = i then some (s.newCall n c k) else s.callAt j := by
  unfold State.raiseAt
  split <;> simp [*]

@[simp] theorem State.marker_raiseAt : (s.raiseAt i n c k).marker m = s.marker m := by
  simp [State.raiseAt]

@[simp] theorem State.generation_raiseAt : ((s.raiseAt i n c k).entry j).generation = (s.entry j).generation := by
  unfold State.raiseAt State.putCall
  by_cases e : j = i
  · subst e; simp
  · simp [e]

@[simp] theorem State.lane_raiseAt : (s.raiseAt i n c k).lane m = s.lane m := by
  rw [s.touched_raiseAt i n c k]; rfl

@[simp] theorem State.device_raiseAt : (s.raiseAt i n c k).device = s.device := by
  rw [s.touched_raiseAt i n c k]

@[simp] theorem State.cls_raiseAt (l : ClassId) : (s.raiseAt i n c k).cls l = s.cls l := by
  rw [s.touched_raiseAt i n c k]; rfl

@[simp] theorem State.newCall_raiseAt (d : Cause) (l : ClassId) : (s.raiseAt i n c k).newCall m d l = s.newCall m d l := by
  simp only [State.newCall, State.cls_raiseAt]
  rw [s.touched_raiseAt i n c k]

theorem State.notice_raiseAt :
    (s.raiseAt i n c k).attention.newCall = true ↔ s.attention.newCall = true ∨ (s.cls k).masked = false :=
  State.newCall_noteNewCall

theorem State.unmark_raiseAt (d : Cause) : (s.raiseAt i n c k).unmark m d = (s.unmark m d).raiseAt i n c k := by
  change (if (s.cls k).masked then _ else _ : State).unmark m d = if (s.cls k).masked then _ else _
  split <;> rfl
end

/-- Needs raised into the slots paired with them, in order. -/
def State.raiseAll (s : State) (l : List (SlotId × Need)) : State :=
  l.foldl (fun t p => t.raiseAt p.1 p.2.lane p.2.cause p.2.cls) s

/-- The markers of these needs cleared. -/
def State.unmarkAll (s : State) (l : List Need) : State :=
  l.foldl (fun t x => t.unmark x.lane x.cause) s

/-- The markers of these needs set. -/
def State.markAll (s : State) (l : List Need) : State :=
  l.foldl (fun t x => t.mark x.lane x.cause x.cls) s

theorem State.raiseAll_cons (s : State) (p : SlotId × Need) (l : List (SlotId × Need)) :
    s.raiseAll (p :: l) = (s.raiseAt p.1 p.2.lane p.2.cause p.2.cls).raiseAll l := rfl

theorem State.unmarkAll_cons (s : State) (x : Need) (l : List Need) :
    s.unmarkAll (x :: l) = (s.unmark x.lane x.cause).unmarkAll l := rfl

theorem State.unmarkAll_raiseAt (s : State) (l : List Need) (i : SlotId) (n : LaneId) (c : Cause) (k : ClassId) :
    (s.raiseAt i n c k).unmarkAll l = (s.unmarkAll l).raiseAt i n c k := by
  induction l generalizing s with
  | nil => rfl
  | cons x xs ih => rw [State.unmarkAll_cons, State.unmark_raiseAt, ih, State.unmarkAll_cons]

section
variable {s : State} {l : List (SlotId × Need)}

@[simp] theorem State.marker_raiseAll (s : State) (l : List (SlotId × Need)) (n : LaneId) :
    (s.raiseAll l).marker n = s.marker n := by
  induction l generalizing s with
  | nil => rfl
  | cons p l ih => rw [State.raiseAll_cons, ih, State.marker_raiseAt]

@[simp] theorem State.generation_raiseAll (s : State) (l : List (SlotId × Need)) (i : SlotId) :
    ((s.raiseAll l).entry i).generation = (s.entry i).generation := by
  induction l generalizing s with
  | nil => rfl
  | cons p l ih => rw [State.raiseAll_cons, ih, State.generation_raiseAt]

/-- A slot that is not used keeps what it holds. -/
theorem State.callAt_raiseAll_of_not_mem {i : SlotId} (hi : ∀ x, (i, x) ∉ l) : (s.raiseAll l).callAt i = s.callAt i := by
  induction l generalizing s with
  | nil => rfl
  | cons p l ih =>
    have hp : i ≠ p.1 := fun e => hi p.2 (by simp [e])
    rw [State.raiseAll_cons, ih fun x hx => hi x (List.mem_cons_of_mem _ hx), State.callAt_raiseAt, if_neg hp]

/-- A slot that is used once holds the call raised for its need. -/
theorem State.callAt_raiseAll_of_mem (hl : (l.map Prod.fst).Nodup) {i : SlotId} {x : Need} (hi : (i, x) ∈ l) :
    (s.raiseAll l).callAt i = some (s.newCall x.lane x.cause x.cls) := by
  induction l generalizing s with
  | nil => cases hi
  | cons p l ih =>
    obtain ⟨hp, hl⟩ := List.nodup_cons.mp hl
    rw [State.raiseAll_cons]
    rcases List.mem_cons.mp hi with e | hi
    · subst e
      rw [State.callAt_raiseAll_of_not_mem fun y hy => hp (List.mem_map.mpr ⟨_, hy, rfl⟩), State.callAt_raiseAt, if_pos rfl]
    · rw [ih hl hi, State.newCall_raiseAt]

theorem State.notice_raiseAll : (s.raiseAll l).attention.newCall = true ↔
    s.attention.newCall = true ∨ ∃ p ∈ l, (s.cls p.2.cls).masked = false := by
  induction l generalizing s with
  | nil => simp [State.raiseAll]
  | cons p l ih => simp [State.raiseAll_cons, ih, State.notice_raiseAt, or_assoc]

end

theorem State.has_unmarkAll {s : State} {l : List Need} {n : LaneId} {c : Cause} :
    ((s.unmarkAll l).marker n).has c = true ↔ (s.marker n).has c = true ∧ ∀ x ∈ l, ¬(x.lane = n ∧ x.cause = c) := by
  induction l generalizing s with
  | nil => simp [State.unmarkAll]
  | cons x xs ih => rw [State.unmarkAll_cons, ih, State.has_unmark]; simp [and_assoc]

theorem State.watch_unmarkAll {s : State} {l : List Need} {n : LaneId} {k : ClassId}
    (h : ((s.unmarkAll l).marker n).watch = some k) : (s.marker n).watch = some k := by
  induction l generalizing s with
  | nil => exact h
  | cons x xs ih => exact State.watch_unmark (ih h)

theorem State.has_markAll {s : State} {l : List Need} {n : LaneId} {c : Cause} :
    ((s.markAll l).marker n).has c = true ↔ (s.marker n).has c = true ∨ ∃ x ∈ l, x.lane = n ∧ x.cause = c := by
  induction l generalizing s with
  | nil => simp [State.markAll]
  | cons x xs ih => rw [State.markAll, List.foldl_cons, ← State.markAll, ih, State.has_mark]; simp [or_assoc]

/-! ### Placement and sweeps as one list of pairs (R135, R145) -/

/-- Raising into the lowest free entry leaves the other free ones. -/
theorem State.freeSlots_raiseAt {s : State} {i : SlotId} {f : List SlotId} (h : s.freeSlots = i :: f) (n : LaneId) (c : Cause)
    (k : ClassId) : (s.raiseAt i n c k).freeSlots = f := by
  have hs := s.freeSlots_pairwise
  rw [h, List.pairwise_cons] at hs
  have e : (s.raiseAt i n c k).freeSlots = s.freeSlots.filter fun j => j != i := by
    simp only [State.freeSlots, List.filter_filter, State.callAt_raiseAt]
    refine List.filter_congr fun j _ => ?_
    by_cases e : j = i <;> simp [e]
  rw [e, h, List.filter_cons_of_neg (by simp), List.filter_eq_self]
  intro j hj
  simpa using (hs.1 j hj).ne'

theorem State.markedNeeds_unmark (s : State) (n m : LaneId) (c : Cause) :
    (s.unmark m c).markedNeeds n = (s.markedNeeds n).filter fun y => !(m == y.lane && c == y.cause) := by
  by_cases e : n = m
  · subst e
    simp only [State.markedNeeds, State.unmark, State.marker_putMarker_self]
    obtain ⟨restock, fault, watch⟩ := s.marker n
    cases c <;> cases restock <;> cases fault <;> cases watch <;> simp [Markers.unmark]
  · have hm : (s.unmark m c).marker n = s.marker n := State.marker_putMarker_ne s m n _ e
    rw [List.filter_eq_self.mpr]
    · simp only [State.markedNeeds, hm]; rfl
    · intro y hy
      simp [(State.mem_markedNeeds.mp hy).1, Ne.symm e]

/-- Clearing the marker of the first need leaves the other needs. -/
theorem State.needs_unmark {s : State} {x : Need} {l : List Need} (h : s.needs = x :: l) :
    (s.unmark x.lane x.cause).needs = l := by
  have hs := s.needs_pairwise
  rw [h, List.pairwise_cons] at hs
  have e : (s.unmark x.lane x.cause).needs = s.needs.filter fun y => !(x.lane == y.lane && x.cause == y.cause) := by
    rw [State.needs, State.needs, ← placementOrder_filter, List.filter_flatMap]
    exact congrArg (fun f => placementOrder ((List.finRange 48).flatMap f)) (funext fun n => s.markedNeeds_unmark n _ _)
  have hx : x.cls = s.needClass x.lane x.cause := (State.mem_needs.mp (h ▸ List.mem_cons_self)).2
  rw [e, h, List.filter_cons_of_neg (by simp), List.filter_eq_self]
  intro y hy
  have hy' : y.cls = s.needClass y.lane y.cause := (State.mem_needs.mp (h ▸ List.mem_cons_of_mem _ hy)).2
  simp only [Bool.not_eq_true', Bool.and_eq_false_iff, beq_eq_false_iff_ne]
  by_contra hk
  push Not at hk
  rcases Need.before_iff.mp (hs.1 y hy) with hc | ⟨-, hc⟩
  · rw [hx, hy', hk.1, hk.2] at hc
    exact lt_irrefl _ hc
  · exact Need.not_ahead_of_key hk.1 hk.2 hc

@[simp] theorem State.needs_raiseAt (s : State) (i : SlotId) (n : LaneId) (c : Cause) (k : ClassId) :
    (s.raiseAt i n c k).needs = s.needs := by
  have h : (s.raiseAt i n c k).markedNeeds = s.markedNeeds := funext fun m => by simp [State.markedNeeds]
  rw [State.needs, h, State.needs]

@[simp] theorem State.freeSlots_unmark (s : State) (n : LaneId) (c : Cause) : (s.unmark n c).freeSlots = s.freeSlots := rfl

/-- The needs that placement serves, each with its slot: the first need gets the lowest free entry, and so on. -/
def State.placements (s : State) : List (SlotId × Need) :=
  s.freeSlots.zip s.needs

theorem State.placeUpTo_eq (fuel : Nat) (s : State) (h : s.freeSlots.length ≤ fuel) :
    s.placeUpTo fuel = (s.unmarkAll (s.needs.take s.freeSlots.length)).raiseAll s.placements := by
  induction fuel generalizing s with
  | zero => simp [State.placements, List.length_eq_zero_iff.mp (Nat.le_zero.mp h)]; rfl
  | succ fuel ih =>
    unfold State.placeUpTo State.placeOne State.placements
    rw [State.freeSlot_eq_head, show s.nextMarked = s.needs.head? from rfl]
    cases hf : s.freeSlots with
    | nil => rfl
    | cons i f =>
      cases hn : s.needs with
      | nil => rfl
      | cons x l =>
        have hf' := State.freeSlots_raiseAt (s := s.unmark x.lane x.cause) hf x.lane x.cause x.cls
        have hn' := State.needs_unmark hn
        simp only [List.head?_cons]
        rw [ih _ (by rw [hf']; simpa [hf] using h), State.placements, hf', State.needs_raiseAt, hn', State.unmarkAll_raiseAt]
        rfl

/-- R135: placement clears the markers of the first needs, as many as there are free entries, and raises each in its entry. -/
theorem State.place_eq (s : State) :
    s.place = (s.unmarkAll (s.needs.take s.freeSlots.length)).raiseAll s.placements :=
  State.placeUpTo_eq 32 s ((List.length_filter_le _ _).trans (by simp))

/-- R126, R145: needs met one by one are raised in the free entries from the lowest on; those left over are marked. -/
theorem State.foldl_need_eq (l : List Need) (s : State) :
    l.foldl (fun t x => t.need x.lane x.cause x.cls) s =
      (s.raiseAll (s.freeSlots.zip l)).markAll (l.drop s.freeSlots.length) := by
  induction l generalizing s with
  | nil => simp; rfl
  | cons x l ih =>
    rw [List.foldl_cons, ih]
    unfold State.need
    rw [State.freeSlot_eq_head]
    cases hf : s.freeSlots with
    | nil =>
      have e : (s.mark x.lane x.cause x.cls).freeSlots = [] := hf
      simp only [List.head?_nil, e]
      rfl
    | cons i f =>
      simp only [List.head?_cons, State.freeSlots_raiseAt hf]
      rfl

/-! ### Pairing two lists in order -/

section
variable {α β : Type} {r : α → α → Prop} {q : β → β → Prop} {f : List α} {l : List β}

theorem nodup_fst_zip (hf : f.Nodup) : ((f.zip l).map Prod.fst).Nodup := by
  induction f generalizing l with
  | nil => simp
  | cons a f ih =>
    cases l with
    | nil => simp
    | cons b l =>
      obtain ⟨ha, hf⟩ := List.nodup_cons.mp hf
      refine List.nodup_cons.mpr ⟨fun h => ha ?_, ih hf⟩
      obtain ⟨p, hp, rfl⟩ := List.mem_map.mp h
      exact (List.of_mem_zip hp).1

theorem snd_mem_of_zip {p : α × β} (h : p ∈ f.zip l) : p.2 ∈ l.take f.length := by
  induction f generalizing l with
  | nil => simp at h
  | cons a f ih =>
    cases l with
    | nil => simp at h
    | cons b l =>
      rcases List.mem_cons.mp h with rfl | h
      · simp
      · simp [ih h]

theorem exists_zip_of_mem_take {b : β} (h : b ∈ l.take f.length) : ∃ a, (a, b) ∈ f.zip l := by
  induction f generalizing l with
  | nil => simp at h
  | cons a f ih =>
    cases l with
    | nil => simp at h
    | cons c l =>
      simp only [List.length_cons, List.take_succ_cons, List.mem_cons] at h
      rcases h with rfl | h
      · exact ⟨a, by simp⟩
      · obtain ⟨a', h⟩ := ih h
        exact ⟨a', by simp [h]⟩

/-- An entry paired with nothing: the second list is used up. -/
theorem drop_eq_nil_of_unpaired {a : α} (ha : a ∈ f) (h : ∀ b, (a, b) ∉ f.zip l) : l.drop f.length = [] := by
  induction f generalizing l with
  | nil => cases ha
  | cons c f ih =>
    cases l with
    | nil => simp
    | cons b l =>
      rcases List.mem_cons.mp ha with rfl | ha
      · exact absurd (by simp) (h b)
      · exact ih ha fun b' hb => h b' (by simp [hb])

/-- An entry before a paired one is paired, with a need before. -/
theorem zip_before (hf : f.Pairwise r) (hr : ∀ a b, r a b → ¬r b a) (hl : l.Pairwise q) {a c : α} {b : β} (h : (a, b) ∈ f.zip l)
    (hc : c ∈ f) (hca : r c a) : ∃ d, (c, d) ∈ f.zip l ∧ q d b := by
  induction f generalizing l with
  | nil => cases hc
  | cons e f ih =>
    cases l with
    | nil => simp at h
    | cons g l =>
      obtain ⟨he, hf⟩ := List.pairwise_cons.mp hf
      obtain ⟨hg, hl⟩ := List.pairwise_cons.mp hl
      rcases List.mem_cons.mp h with h' | h'
      · obtain ⟨rfl, rfl⟩ := Prod.mk.inj h'
        rcases List.mem_cons.mp hc with rfl | hc
        · exact absurd hca (hr _ _ hca)
        · exact absurd hca (hr _ _ (he _ hc))
      · rcases List.mem_cons.mp hc with rfl | hc
        · exact ⟨g, by simp, hg _ (List.of_mem_zip h').2⟩
        · obtain ⟨d, hd, hq⟩ := ih hf hl h' hc
          exact ⟨d, by simp [hd], hq⟩

/-- What is left over comes after everything that is paired. -/
theorem zip_before_rest (hl : l.Pairwise q) {p : α × β} (hp : p ∈ f.zip l) {b : β} (hb : b ∈ l.drop f.length) : q p.2 b := by
  rw [← List.take_append_drop f.length l, List.pairwise_append] at hl
  exact hl.2.2 _ (snd_mem_of_zip hp) _ hb

end

end Sys2Proof.Machine
end

section
/-! SUPPORT. What placement makes of the call table (R135). -/

namespace Sys2Proof.Machine

/-! ### What a command of the call controller leaves alone, field by field -/

section
variable {s t : State} (h : CallsOnly s t)
include h

theorem CallsOnly.lane (n : LaneId) : t.lane n = s.lane n := by rw [h]; rfl

theorem CallsOnly.capture (i : CaptureId) : t.capture i = s.capture i := by rw [h]; rfl

theorem CallsOnly.held (n : LaneId) : t.held n = s.held n := by rw [h]; rfl

theorem CallsOnly.store : t.store = s.store := by rw [h]

theorem CallsOnly.cls (k : ClassId) : t.cls k = s.cls k := by rw [h]; rfl

theorem CallsOnly.newCall (n : LaneId) (c : Cause) (k : ClassId) : t.newCall n c k = s.newCall n c k := by
  simp only [State.newCall, h.cls]
  rw [h]
end

/-! ### Placement (R135) -/

theorem State.touched_unmarkAll (s : State) (l : List Need) : CallsOnly s (s.unmarkAll l) := by
  induction l generalizing s with
  | nil => exact .refl s
  | cons x l ih => exact (s.touched_unmark x.lane x.cause).trans (ih _)

@[simp] theorem State.entry_unmarkAll (s : State) (l : List Need) (i : SlotId) : (s.unmarkAll l).entry i = s.entry i := by
  induction l generalizing s with
  | nil => rfl
  | cons x l ih => rw [State.unmarkAll_cons, ih, State.entry_unmark]

@[simp] theorem State.callAt_unmarkAll (s : State) (l : List Need) (i : SlotId) : (s.unmarkAll l).callAt i = s.callAt i := by
  rw [State.callAt, State.entry_unmarkAll, State.callAt]

@[simp] theorem State.notice_unmarkAll (s : State) (l : List Need) : (s.unmarkAll l).attention = s.attention := by
  induction l generalizing s with
  | nil => rfl
  | cons x l ih => rw [State.unmarkAll_cons, ih, State.unmark_attention]

section
variable {s : State}

/-- Only free entries are paired. -/
theorem State.placements_free {i : SlotId} {x : Need} (h : (i, x) ∈ s.placements) : s.callAt i = none :=
  State.mem_freeSlots.mp (List.of_mem_zip h).1

theorem State.placements_mem {p : SlotId × Need} (h : p ∈ s.placements) : p.2 ∈ s.needs :=
  (List.of_mem_zip (a := p.1) (b := p.2) h).2

theorem State.placements_nodup (s : State) : (s.placements.map Prod.fst).Nodup :=
  nodup_fst_zip (s.freeSlots_pairwise.imp ne_of_lt)

@[simp] theorem State.generation_place (s : State) (i : SlotId) : (s.place.entry i).generation = (s.entry i).generation := by
  rw [State.place_eq, State.generation_raiseAll, State.entry_unmarkAll]

/-- Placement serves the needs that are paired with an entry. -/
theorem State.callAt_place_of_mem {i : SlotId} {x : Need} (h : (i, x) ∈ s.placements) :
    s.place.callAt i = some (s.newCall x.lane x.cause x.cls) := by
  rw [State.place_eq, State.callAt_raiseAll_of_mem s.placements_nodup h, (s.touched_unmarkAll _).newCall]

/-- An occupied entry stands. -/
theorem State.callAt_place_of_some {i : SlotId} {a : Call} (h : s.callAt i = some a) : s.place.callAt i = some a := by
  rw [State.place_eq, State.callAt_raiseAll_of_not_mem, State.callAt_unmarkAll, h]
  intro x hx
  rw [State.placements_free hx] at h
  cases h

/-- What an entry holds after placement it held before, or it was free and is paired with a need. -/
theorem State.callAt_place {i : SlotId} {a : Call} (h : s.place.callAt i = some a) :
    s.callAt i = some a ∨
      s.callAt i = none ∧ ∃ x, (i, x) ∈ s.placements ∧ a = s.newCall x.lane x.cause x.cls := by
  by_cases hx : ∃ x, (i, x) ∈ s.placements
  · obtain ⟨x, hx⟩ := hx
    rw [State.callAt_place_of_mem hx, Option.some.injEq] at h
    exact .inr ⟨State.placements_free hx, x, hx, h.symm⟩
  · rw [State.place_eq, State.callAt_raiseAll_of_not_mem fun x hxm => hx ⟨x, hxm⟩, State.callAt_unmarkAll] at h
    exact .inl h

/-- A marker that is placed is cleared, and every other one stays. -/
theorem State.has_place {n : LaneId} {c : Cause} : (s.place.marker n).has c = true ↔
    (s.marker n).has c = true ∧ ∀ p ∈ s.placements, ¬(p.2.lane = n ∧ p.2.cause = c) := by
  rw [State.place_eq, State.marker_raiseAll, State.has_unmarkAll]
  refine and_congr_right fun _ => ⟨fun h p hp => h p.2 (snd_mem_of_zip hp), fun h x hx => ?_⟩
  obtain ⟨i, hi⟩ := exists_zip_of_mem_take hx
  exact h _ hi

theorem State.watch_place {n : LaneId} (h : (s.place.marker n).has .watch = true) :
    (s.place.marker n).watch = (s.marker n).watch := by
  obtain ⟨k, hk⟩ := Option.isSome_iff_exists.mp h
  rw [hk]
  rw [State.place_eq, State.marker_raiseAll] at hk
  exact (State.watch_unmarkAll hk).symm

/-- A placed call stands for a set marker, which is then clear. -/
theorem State.placed_marker {i : SlotId} {a : Call} (hs : s.callAt i = none) (h : s.place.callAt i = some a) :
    (s.marker a.lane).has a.cause = true ∧ (s.place.marker a.lane).has a.cause = false ∧
      a = raisedCall s a.lane a.cause a.cls := by
  rcases State.callAt_place h with h | ⟨-, x, hx, rfl⟩
  · rw [hs] at h; cases h
  · refine ⟨(State.mem_needs.mp (State.placements_mem hx)).1, ?_, rfl⟩
    rw [Bool.eq_false_iff, ne_eq, State.has_place]
    exact fun hm => hm.2 _ hx ⟨rfl, rfl⟩

/-- No marker stays set while an entry is free. -/
theorem State.marker_place_of_free {i : SlotId} (h : s.place.callAt i = none) (n : LaneId) :
    s.place.marker n = Markers.clear := by
  have hi : s.callAt i = none := by
    cases e : s.callAt i with
    | none => rfl
    | some a => rw [State.callAt_place_of_some e] at h; cases h
  have hd : s.needs.drop s.freeSlots.length = [] :=
    drop_eq_nil_of_unpaired (State.mem_freeSlots.mpr hi) fun x hx => by
      rw [State.callAt_place_of_mem hx] at h
      cases h
  refine Markers.eq_clear fun c => ?_
  rw [Bool.eq_false_iff, ne_eq, State.has_place]
  rintro ⟨hm, hp⟩
  have hx : (⟨n, c, s.needClass n c⟩ : Need) ∈ s.needs := State.mem_needs.mpr ⟨hm, rfl⟩
  rw [← List.take_append_drop s.freeSlots.length s.needs, hd, List.append_nil] at hx
  obtain ⟨j, hj⟩ := exists_zip_of_mem_take hx
  exact hp _ hj ⟨rfl, rfl⟩

/-- A need that keeps its marker comes after every need that is placed. -/
theorem State.placed_before_marked {p : SlotId × Need} (hp : p ∈ s.placements) {n : LaneId} {c : Cause}
    (h : (s.place.marker n).has c = true) : p.2.Before ⟨n, c, s.needClass n c⟩ := by
  obtain ⟨hm, hn⟩ := State.has_place.mp h
  have hx : (⟨n, c, s.needClass n c⟩ : Need) ∈ s.needs := State.mem_needs.mpr ⟨hm, rfl⟩
  rw [← List.take_append_drop s.freeSlots.length s.needs, List.mem_append] at hx
  rcases hx with hx | hx
  · obtain ⟨j, hj⟩ := exists_zip_of_mem_take hx
    exact absurd ⟨rfl, rfl⟩ (hn _ hj)
  · exact zip_before_rest s.needs_pairwise hp hx

theorem State.notice_place : s.place.attention.newCall = true ↔ s.attention.newCall = true ∨
    ∃ i a, s.callAt i = none ∧ s.place.callAt i = some a ∧ (s.cls a.cls).masked = false := by
  rw [State.place_eq, State.notice_raiseAll, ← State.place_eq, State.notice_unmarkAll]
  refine or_congr_right ⟨?_, ?_⟩
  · rintro ⟨p, hp, hm⟩
    rw [(s.touched_unmarkAll _).cls] at hm
    exact ⟨p.1, _, State.placements_free hp, State.callAt_place_of_mem hp, hm⟩
  · rintro ⟨i, a, hs, ha, hm⟩
    rcases State.callAt_place ha with h | ⟨-, x, hx, rfl⟩
    · rw [hs] at h; cases h
    · exact ⟨_, hx, by rwa [(s.touched_unmarkAll _).cls]⟩

/-- R135, under R129 and R134: placement fills the free entries from the markers in the placement order. -/
theorem State.placedFrom_place (hs : MarkerSourceLaw s) : PlacedFrom s s.place := by
  refine ⟨s.touched_place, s.generation_place, fun i hi => ?_, fun ⟨i, hi⟩ => State.marker_place_of_free hi,
    fun i a hi ha => ?_, fun n c => ?_, fun n => State.watch_place, State.notice_place⟩
  · obtain ⟨a, ha⟩ := Option.ne_none_iff_exists'.mp hi
    rw [ha, State.callAt_place_of_some ha]
  · obtain ⟨h1, h2, h3⟩ := State.placed_marker hi ha
    rcases State.callAt_place ha with h | ⟨-, x, hx, e⟩
    · rw [hi] at h; cases h
    have hcls := (State.mem_needs.mp (State.placements_mem hx)).2
    refine ⟨h1, h2, ?_, h3, fun j hj hfree => ?_, fun n c k hm hk => ?_⟩
    · rw [State.carriedClass_of_marked hs h1, e]
      exact congrArg some hcls.symm
    · obtain ⟨y, hy, hyx⟩ := zip_before s.freeSlots_pairwise (fun _ _ => lt_asymm) s.needs_pairwise hx
        (State.mem_freeSlots.mpr hfree) hj
      exact ⟨_, State.callAt_place_of_mem hy, e ▸ hyx⟩
    · have := State.placed_before_marked hx hm
      rw [State.needClass_of_carriedClass hk] at this
      exact e ▸ this
  · rw [State.has_place]
    refine and_congr_right fun _ => ⟨fun h i a hi ha => ?_, fun h p hp hk => ?_⟩
    · rcases State.callAt_place ha with h' | ⟨-, x, hx, rfl⟩
      · rw [hi] at h'; cases h'
      · exact h _ hx
    · exact h p.1 _ (State.placements_free hp) (State.callAt_place_of_mem hp) hk

end
end Sys2Proof.Machine
end

section
/-! SUPPORT. What each writing of a lane record keeps: the range of Z and the agreement of the level (R3, R67, R68). -/

namespace Sys2Proof.Machine

/-! ### What a writing of one lane keeps -/

/-- A lane's part of `ZeroLaw` (R3). -/
def Lane.ZeroInRange (l : Lane) : Prop :=
  (l.calibration.working - l.calibration.zero).natAbs ≤ l.weighing.trackLimit

/-- A lane's part of `LevelLaw` (R2, R67, R68). -/
def Lane.LevelInOrder (l : Lane) : Prop :=
  l.binding.lowMark < l.binding.clearMark ∧ LevelAgrees l ∧ (l.committed.level = .none → l.binding.baselineNeeded = true)

/-- A lane rewritten from `l` to `l'` outside SUSPEND_LANE and UNBIND_LANE: it is bound, it is not newly suspended, and its zero
and its level keep their laws. -/
structure Lane.Keeps (l l' : Lane) : Prop where
  bound     : l'.state ≠ .off
  suspended : l'.binding.suspended = true → l.binding.suspended = true
  zero      : l.ZeroInRange → l'.ZeroInRange
  level     : l.LevelInOrder → l'.LevelInOrder

theorem Lane.Keeps.trans {l m k : Lane} (h : l.Keeps m) (h' : m.Keeps k) : l.Keeps k :=
  ⟨h'.bound, h.suspended ∘ h'.suspended, h'.zero ∘ h.zero, h'.level ∘ h.level⟩

/-- A writing that leaves the binding, the calibration, the track limit, the committed count and the level alone. -/
theorem Lane.Keeps.of_eq {l l' : Lane} (hs : l'.state ≠ .off) (hb : l'.binding = l.binding) (hw : l'.weighing = l.weighing)
    (hc : l'.calibration = l.calibration) (hl : l'.committed.level = l.committed.level)
    (hn : l'.committed.count = l.committed.count) : l.Keeps l' := by
  refine ⟨hs, by rw [hb]; exact id, ?_, ?_⟩
  · simp only [Lane.ZeroInRange, hw, hc, imp_self]
  · simp only [Lane.LevelInOrder, LevelAgrees, hb, hl, hn, imp_self]

/-- R67: the level computed from the committed count and marks in order agrees with them. -/
theorem levelAgrees_levelOf {l : Lane} {before : Level} (hm : l.binding.lowMark < l.binding.clearMark)
    (hlv : l.committed.level = levelOf l.committed.count l.binding.lowMark l.binding.clearMark before) :
    l.committed.level ≠ .none ∧ LevelAgrees l := by
  unfold levelOf at hlv
  unfold LevelAgrees
  split at hlv
  · simp [*]
  · split at hlv
    · simp only [hlv]; simp; omega
    · split at hlv
      · cases before <;> simp only at hlv <;> simp [hlv] <;> omega
      · simp only [hlv]; simp; omega

section
variable {l : Lane} (hl : l.state ≠ .off)
include hl

theorem Lane.keeps_abnormal : l.Keeps l.abnormal := by
  refine .of_eq ?_ rfl rfl rfl rfl rfl
  unfold Lane.abnormal
  dsimp only
  split
  · decide
  · exact hl

theorem Lane.keeps_recovering : l.Keeps l.recovering := .of_eq hl rfl rfl rfl rfl rfl

theorem Lane.keeps_relapsed (c : Condition) : l.Keeps (l.relapsed c) := .of_eq hl rfl rfl rfl rfl rfl

theorem Lane.keeps_filter (r : Int) : l.Keeps (l.filter r) := .of_eq hl rfl rfl rfl rfl rfl

theorem Lane.keeps_refilter (r : Int) : l.Keeps (l.refilter r) := .of_eq hl rfl rfl rfl rfl rfl

theorem Lane.keeps_carried : l.Keeps l.carried := .of_eq hl rfl rfl rfl rfl rfl

theorem Lane.keeps_calibrated (zero : Int) (gain : Nat) : l.Keeps (l.calibrated zero gain) where
  bound := hl
  suspended := id
  zero _ := by simp [Lane.calibrated, Lane.ZeroInRange]
  level h := ⟨h.1, h.2.1, fun _ => rfl⟩

theorem Lane.keeps_resumed : l.Keeps (l.suspendWith false true) where
  bound := hl
  suspended h := by cases h
  zero := id
  level h := ⟨h.1, h.2.1, fun _ => rfl⟩

theorem Lane.keeps_reweighed (w : Weighing) : l.Keeps (l.reweighed w) where
  bound := hl
  suspended := id
  zero _ := by
    simp only [Lane.reweighed, Lane.ZeroInRange, clampZero]
    omega
  level := id

theorem Lane.keeps_rebound {f : BindFields} (hf : f.lowMark < f.clearMark) : l.Keeps (l.rebound f) where
  bound := hl
  suspended := id
  zero := id
  level := by
    rintro ⟨hm, ha, hn⟩
    refine ⟨hf, ?_⟩
    by_cases h0 : l.committed.level = .none
    · have e : (l.rebound f).committed.level = .none := by simp [Lane.rebound, Lane.relevel, h0]
      refine ⟨fun h => absurd e h, fun _ => ?_⟩
      simp [Lane.rebound, Binding.rebound, hn h0]
    · by_cases hk : l.binding.lowMark = f.lowMark ∧ l.binding.clearMark = f.clearMark
      · have e : (l.rebound f).committed = l.committed := by simp [Lane.rebound, Lane.relevel, h0, hk]
        simp only [LevelAgrees, e]
        refine ⟨?_, fun h => absurd h h0⟩
        simpa [Lane.rebound, Binding.rebound, ← hk.1, ← hk.2] using ha
      · have e : (l.rebound f).committed.level = levelOf l.committed.count f.lowMark f.clearMark l.committed.level := by
          simp [Lane.rebound, Lane.relevel, h0, hk]
        obtain ⟨h1, h2⟩ := levelAgrees_levelOf (l := l.rebound f) hf e
        exact ⟨h2, fun h => absurd h h1⟩

theorem Lane.keeps_commit (before : Level) : l.Keeps (l.commit before) where
  bound := hl
  suspended := id
  zero := id
  level := by
    rintro ⟨hm, -, -⟩
    obtain ⟨h1, h2⟩ := levelAgrees_levelOf (l := l.commit before) hm rfl
    exact ⟨hm, h2, fun h => absurd h h1⟩

theorem Lane.keeps_baseline :
    l.Keeps { l.commit .none with binding := { l.binding with baselineNeeded := false } } where
  bound := hl
  suspended := id
  zero := id
  level := by
    rintro ⟨hm, -, -⟩
    obtain ⟨h1, h2⟩ := levelAgrees_levelOf (l := l.commit .none) (before := .none) hm rfl
    exact ⟨hm, h2, fun h => absurd h h1⟩

theorem Lane.keeps_tracked : l.Keeps l.tracked := by
  unfold Lane.tracked
  dsimp only
  split
  · exact .of_eq hl rfl rfl rfl rfl rfl
  · split
    · next hw => exact ⟨hl, id, fun _ => by simpa [withinTrack, Lane.ZeroInRange] using hw, id⟩
    · next hg _ =>
      refine ⟨hl, id, fun _ => ?_, id⟩
      simp [Lane.ZeroInRange, Int.natAbs_mul, Int.natAbs_sign_of_ne_zero hg]

end

theorem Lane.keeps_followed {l : Lane} (r : Int) {st : LaneState} (h : st ≠ .off) :
    l.Keeps { l.followed r with state := st } := .of_eq h rfl rfl rfl rfl rfl

theorem Lane.keeps_recovered (l : Lane) (r : Int) : l.Keeps (l.recovered r) :=
  .of_eq (by simp [Lane.recovered, Lane.measured]) rfl rfl rfl rfl rfl

theorem Lane.keeps_enterFault (l : Lane) (c : Condition) : l.Keeps (l.enterFault c) :=
  .of_eq (by simp [Lane.enterFault]) rfl rfl rfl rfl rfl

theorem Lane.keeps_enterCapture (l : Lane) : l.Keeps l.enterCapture :=
  .of_eq (by simp [Lane.enterCapture]) rfl rfl rfl rfl rfl

theorem Lane.keeps_leaveCapture (l : Lane) (o : CaptureOutcome) : l.Keeps (l.leaveCapture o) :=
  .of_eq (by simp [Lane.leaveCapture]) rfl rfl rfl rfl rfl

theorem Lane.keeps_zeroed (l : Lane) : l.Keeps l.zeroed where
  bound := by simp [Lane.zeroed]
  suspended := id
  zero _ := by simp [Lane.zeroed, Lane.ZeroInRange]
  level h := ⟨h.1, h.2.1, fun _ => rfl⟩

theorem Lane.keeps_spanned (l : Lane) (m : Nat) : l.Keeps (l.spanned m) := by
  unfold Lane.spanned
  split <;> exact ⟨by simp, id, id, id⟩

theorem keeps_boundLane (l : Lane) (n : LaneId) {f : BindFields} (hf : f.lowMark < f.clearMark) : l.Keeps (boundLane n f) where
  bound := by simp [boundLane]
  suspended h := by cases h
  zero _ := by simp [boundLane, Lane.ZeroInRange, Lane.off, Calibration.factory]
  level _ := ⟨hf, fun h => absurd rfl h, fun _ => rfl⟩
end Sys2Proof.Machine
end

section
/-! SUPPORT. What each operation of the call controller keeps: no call and no marker for a lane that is OFF, none RAISED for a
suspended one (R7, R144). -/

namespace Sys2Proof.Machine

/-! ### What the call controller's operations keep (R7, R144) -/

/-- A call may be raised for lane `n`: the lane is bound and not suspended, or a marker of it is set (R126, R134). -/
def State.MayCall (s : State) (n : LaneId) : Prop :=
  (s.lane n).raisable = true ∨ ∃ c, (s.marker n).has c = true

/-- The call controller moves from `s` to `t`: every call of `t` is one of `s`, RAISED again only on a lane that is not suspended,
or stands for a lane for which `s` may raise one; and so does every marker. -/
structure CallsKept (s t : State) : Prop where
  only    : CallsOnly s t
  calls   : ∀ i a, t.callAt i = some a → s.MayCall a.lane ∨ ∃ j b, s.callAt j = some b ∧ b.lane = a.lane ∧
    (a.state = .raised → b.state = .raised ∨ (s.lane a.lane).binding.suspended = false)
  markers : ∀ n c, (t.marker n).has c = true → s.MayCall n

theorem CallsKept.mayCall {s t : State} (h : CallsKept s t) {n : LaneId} (ht : t.MayCall n) : s.MayCall n := by
  rcases ht with hr | ⟨c, hc⟩
  · exact .inl (by rwa [h.only.lane] at hr)
  · exact h.markers n c hc

theorem CallsKept.trans {s t u : State} (h : CallsKept s t) (k : CallsKept t u) : CallsKept s u where
  only := h.only.trans k.only
  calls i a ha := by
    rcases k.calls i a ha with hm | ⟨j, b, hb, hba, hr⟩
    · exact .inl (h.mayCall hm)
    · rcases h.calls j b hb with hm | ⟨j', b', hb', hbb, hr'⟩
      · exact .inl (hba ▸ hm)
      · refine .inr ⟨j', b', hb', hbb.trans hba, fun e => ?_⟩
        rcases hr e with h1 | h1
        · rw [← hba]; exact hr' h1
        · exact .inr (by rwa [h.only.lane] at h1)
  markers n c hc := h.mayCall (k.markers n c hc)

theorem CallsKept.of_same {s t : State} (ho : CallsOnly s t) (hc : ∀ i a, t.callAt i = some a → s.callAt i = some a)
    (hm : ∀ n c, (t.marker n).has c = true → (s.marker n).has c = true) : CallsKept s t where
  only := ho
  calls i a ha := .inr ⟨i, a, hc i a ha, rfl, .inl⟩
  markers n c h := .inr ⟨c, hm n c h⟩

theorem CallsKept.refl (s : State) : CallsKept s s := .of_same (.refl s) (fun _ _ => id) fun _ _ => id

theorem State.marked_mayCall {s : State} {n : LaneId} {c : Cause} (h : (s.marker n).has c = true) : s.MayCall n := .inr ⟨c, h⟩

/-- A call written over another of the same lane. -/
theorem CallsKept.putCall {s : State} {i : SlotId} {a b : Call} (hb : s.callAt i = some b) (hl : a.lane = b.lane)
    (hr : a.state = .raised → b.state = .raised ∨ (s.lane b.lane).binding.suspended = false) :
    CallsKept s (s.putCall i a) where
  only := s.touched_putCall i a
  calls j a' ha := by
    by_cases e : j = i
    · subst e
      rw [State.callAt_putCall_self, Option.some.injEq] at ha
      subst ha
      exact .inr ⟨j, b, hb, hl.symm, hl ▸ hr⟩
    · rw [State.callAt_putCall_ne _ _ _ _ e] at ha
      exact .inr ⟨j, a', ha, rfl, .inl⟩
  markers n c h := State.marked_mayCall h

theorem CallsKept.noteNewCall (s : State) (k : ClassId) : CallsKept s (s.noteNewCall k) :=
  .of_same (s.touched_noteNewCall k) (fun _ _ => by simp) fun _ _ => by simp

theorem CallsKept.raiseAt {s : State} {n : LaneId} (hn : s.MayCall n) (i : SlotId) (c : Cause) (k : ClassId) :
    CallsKept s (s.raiseAt i n c k) where
  only := s.touched_raiseAt i n c k
  calls j a ha := by
    rw [State.callAt_raiseAt] at ha
    split at ha
    · cases ha
      exact .inl hn
    · exact .inr ⟨j, a, ha, rfl, .inl⟩
  markers m d h := State.marked_mayCall (by simpa using h)

theorem CallsKept.mark {s : State} {n : LaneId} (hn : s.MayCall n) (c : Cause) (k : ClassId) :
    CallsKept s (s.mark n c k) where
  only := s.touched_mark n c k
  calls i a ha := .inr ⟨i, a, ha, rfl, .inl⟩
  markers m d h := by
    rcases State.has_mark.mp h with h | ⟨e, -⟩
    · exact State.marked_mayCall h
    · exact e ▸ hn

theorem CallsKept.unmark (s : State) (n : LaneId) (c : Cause) : CallsKept s (s.unmark n c) :=
  .of_same (s.touched_unmark n c) (fun _ _ => id) fun _ _ h => (State.has_unmark.mp h).1

theorem CallsKept.need {s : State} {n : LaneId} (hn : s.MayCall n) (c : Cause) (k : ClassId) : CallsKept s (s.need n c k) := by
  unfold State.need
  split
  · exact .raiseAt hn _ c k
  · exact .mark hn c k

theorem CallsKept.freeEntry (s : State) (i : SlotId) : CallsKept s (s.freeEntry i) :=
  .of_same (s.touched_freeEntry i) (fun j a h => by
    unfold State.freeEntry at h
    by_cases e : j = i
    · subst e; simp [State.callAt] at h
    · simpa [State.callAt, e] using h) fun _ _ => id

theorem CallsKept.freeWhere (s : State) (p : Call → Bool) : CallsKept s (s.freeWhere p) :=
  .of_same (s.touched_freeWhere p) (fun i a h => by
    rw [State.callAt_freeWhere, Option.filter_eq_some_iff] at h
    exact h.1) fun _ _ => by simp

theorem CallsKept.place (s : State) : CallsKept s s.place where
  only := s.touched_place
  calls i a ha := by
    rcases State.callAt_place ha with h | ⟨-, x, hx, rfl⟩
    · exact .inr ⟨i, a, h, rfl, .inl⟩
    · exact .inl (State.marked_mayCall (State.mem_needs.mp (State.placements_mem hx)).1)
  markers _ _ h := State.marked_mayCall (State.has_place.mp h).1

@[simp] theorem Call.asserted_lane (a : Call) (k : ClassId) : (a.asserted k).lane = a.lane := by
  unfold Call.asserted
  split
  · rfl
  · split <;> rfl
  · rfl

@[simp] theorem Call.asserted_cause (a : Call) (k : ClassId) : (a.asserted k).cause = a.cause := by
  unfold Call.asserted
  split
  · rfl
  · split <;> rfl
  · rfl

/-- An assertion brings no call back to RAISED (R131). -/
theorem Call.asserted_raised {a : Call} {k : ClassId} (h : (a.asserted k).state = .raised) : a.state = .raised := by
  unfold Call.asserted at h
  split at h
  · assumption
  · split at h <;> exact h
  · cases h

theorem CallsKept.assertSource (s : State) (n : LaneId) (c : Cause) (k : ClassId) : CallsKept s (s.assertSource n c k) := by
  unfold State.assertSource
  split
  · split
    · next b hb => exact .putCall hb (Call.asserted_lane b k) fun h => .inl (Call.asserted_raised h)
    · exact .refl s
  · split
    · next h => exact .mark (State.marked_mayCall h) c k
    · split
      · next h => exact .need (.inl h) c k
      · exact .refl s

theorem CallsKept.clearSource (s : State) (n : LaneId) (c : Cause) : CallsKept s (s.clearSource n c) := by
  unfold State.clearSource
  split
  · split
    · next b hb =>
      split
      · exact (CallsKept.freeEntry s _).trans (.place _)
      · exact .putCall hb rfl fun h => by cases h
      · exact .refl s
    · exact .refl s
  · exact .unmark s n c

theorem CallsKept.offerClass (s : State) (n : LaneId) (c : Cause) (k : ClassId) : CallsKept s (s.offerClass n c k) := by
  unfold State.offerClass
  split
  · split
    · next b hb => exact .putCall hb rfl .inl
    · exact .refl s
  · exact .refl s

theorem CallsKept.handLevel (s : State) (n : LaneId) (a b : Level) : CallsKept s (s.handLevel n a b) := by
  unfold State.handLevel
  split
  any_goals exact .assertSource s _ _ _
  any_goals exact .clearSource s _ _
  · split
    · exact .refl s
    · exact .assertSource s _ _ _
  · exact .refl s

theorem CallsKept.handFault (s : State) (n : LaneId) (b : Bool) : CallsKept s (s.handFault n b) := by
  unfold State.handFault
  split
  · split
    · exact .refl s
    · exact .assertSource s _ _ _
  · split
    · exact .clearSource s _ _
    · exact .refl s

theorem CallsKept.foldl_need {l : List Need} {s : State} (h : ∀ x ∈ l, (s.lane x.lane).raisable = true) :
    CallsKept s (l.foldl (fun t x => t.need x.lane x.cause x.cls) s) := by
  induction l generalizing s with
  | nil => exact .refl s
  | cons x xs ih =>
    have hx := CallsKept.need (.inl (h x (by simp))) x.cause x.cls
    exact hx.trans (ih fun y hy => by rw [hx.only.lane]; exact h y (by simp [hy]))

theorem State.unmet_raisable {s : State} {n : LaneId} {c : Cause} (h : s.unmet n c = true) : (s.lane n).raisable = true := by
  simp only [State.unmet, Bool.and_eq_true] at h
  exact h.1.1.1

theorem CallsKept.sweep (s : State) (lanes : List LaneId) : CallsKept s (s.sweep lanes) := by
  refine .foldl_need fun x hx => ?_
  obtain ⟨n, -, hn⟩ := List.mem_flatMap.mp (mem_placementOrder.mp hx)
  obtain ⟨rfl, hu, -⟩ := State.mem_sweptNeeds.mp hn
  exact State.unmet_raisable hu

theorem State.marker_cleared (s : State) (n : LaneId) :
    State.marker { s with markers := Vector.replicate 48 Markers.clear } n = Markers.clear := by
  simp [State.marker]

theorem CallsKept.clearMarkers (s : State) : CallsKept s { s with markers := Vector.replicate 48 Markers.clear } :=
  .of_same (s.touched_clearMarkers _) (fun _ _ => id) fun n c h => by
    rw [State.marker_cleared, Markers.has_clear] at h
    cases h

theorem CallsKept.clearCalls (s : State) : CallsKept s s.clearCalls :=
  ((CallsKept.freeWhere s _).trans (.clearMarkers _)).trans (.sweep _ _)

end Sys2Proof.Machine
end

section
/-! SUPPORT. The laws of the lanes over the whole state, and the blocks that write lanes, captures,
calls, hold slots or the store. -/

namespace Sys2Proof.Machine

/-! ### The laws of the lanes, kept together -/

/-- What every command keeps of the laws over the lanes: each law is kept on its own, but for the two halves of R67, the levels and
the marks of the images, which need each other through a save and a restart. -/
structure KeepsLaws (s t : State) : Prop where
  quiet   : QuietLanes s → QuietLanes t
  off     : OffLaw s → OffLaw t
  capture : CaptureLaw s → CaptureLaw t
  zero    : ZeroLaw s → ZeroLaw t
  level   : LevelLaw s ∧ ImageLaw s → LevelLaw t ∧ ImageLaw t

theorem KeepsLaws.refl (s : State) : KeepsLaws s s := ⟨id, id, id, id, id⟩

theorem KeepsLaws.trans {s t u : State} (h : KeepsLaws s t) (k : KeepsLaws t u) : KeepsLaws s u :=
  ⟨k.quiet ∘ h.quiet, k.off ∘ h.off, k.capture ∘ h.capture, k.zero ∘ h.zero, k.level ∘ h.level⟩

/-- The link, the attention reasons, the settings, the clock, the scanner, the journal, the watch rules, the classes, the bays and
the patterns are none of these laws' business; of the store, the images held are: those of before, or the one a save copies. -/
theorem KeepsLaws.of_store {s t : State} (hl : t.lanes = s.lanes) (hc : t.calls = s.calls) (hm : t.markers = s.markers)
    (hp : t.captures = s.captures) (hh : t.holds = s.holds)
    (hs : ∀ i, t.store.image = some i ∨ t.store.copy = some i →
      (s.store.image = some i ∨ s.store.copy = some i) ∨ i = s.currentImage) : KeepsLaws s t := by
  have el : ∀ n, t.lane n = s.lane n := fun n => by simp only [State.lane, hl]
  have ec : ∀ i, t.callAt i = s.callAt i := fun i => by simp only [State.callAt, State.entry, hc]
  have em : ∀ n, t.marker n = s.marker n := fun n => by simp only [State.marker, hm]
  have ep : ∀ i, t.capture i = s.capture i := fun i => by simp only [State.capture, hp]
  have eh : ∀ n, t.held n = s.held n := fun n => by simp only [State.held, hh]
  constructor
  · simp only [QuietLanes, el, ec, em, imp_self]
  · simp only [OffLaw, el, eh, imp_self]
  · simp only [CaptureLaw, el, ep, imp_self]
  · simp only [ZeroLaw, el, imp_self]
  · rintro ⟨hv, hi⟩
    refine ⟨by simpa only [LevelLaw, el] using hv, fun i h n l hn => ?_⟩
    rcases hs i h with h | rfl
    · exact hi i h n l hn
    · have e : s.currentImage.lanes[n] = (s.lane n).image := by simp [State.currentImage, State.lane]
      rw [e, Lane.image] at hn
      split at hn
      · cases hn
      · cases hn
        exact (hv n).1

theorem KeepsLaws.of_tables {s t : State} (hl : t.lanes = s.lanes) (hc : t.calls = s.calls) (hm : t.markers = s.markers)
    (hp : t.captures = s.captures) (hh : t.holds = s.holds) (hs : t.store = s.store) : KeepsLaws s t :=
  .of_store hl hc hm hp hh fun _ h => .inl (hs ▸ h)

/-- The call controller keeps the laws. -/
theorem KeepsLaws.of_calls {s t : State} (h : CallsKept s t) : KeepsLaws s t := by
  have el := h.only.lane
  constructor
  · rintro ⟨hc, hm⟩
    have may : ∀ n, s.MayCall n → (s.lane n).state ≠ .off ∧ (s.lane n).binding.suspended = false := by
      rintro n (hr | ⟨c, hs⟩)
      · simpa [Lane.raisable] using hr
      · exact hm n c hs
    refine ⟨fun i a ha => ?_, fun n c hn => ?_⟩
    · rw [el]
      rcases h.calls i a ha with hn | ⟨j, b, hb, e, hr⟩
      · exact ⟨(may _ hn).1, fun _ => (may _ hn).2⟩
      · obtain ⟨h1, h2⟩ := hc j b hb
        rw [e] at h1 h2
        exact ⟨h1, fun hs => (hr hs).elim h2 id⟩
    · rw [el]
      exact may n (h.markers n c hn)
  · simp only [OffLaw, el, h.only.held, imp_self]
  · simp only [CaptureLaw, el, h.only.capture, imp_self]
  · simp only [ZeroLaw, el, imp_self]
  · simp only [LevelLaw, ImageLaw, el, h.only.store, imp_self]

/-- Lanes rewritten in place, with the capture slots that run for them. -/
theorem KeepsLaws.of_rewritten {s t : State} (h : t = { s with lanes := t.lanes, captures := t.captures })
    (hl : ∀ n, t.lane n = s.lane n ∨ (s.lane n).Keeps (t.lane n)) (hc : CaptureLaw s → CaptureLaw t) : KeepsLaws s t := by
  have ec : ∀ i, t.callAt i = s.callAt i := fun i => by rw [h]; rfl
  have em : ∀ n, t.marker n = s.marker n := fun n => by rw [h]; rfl
  have eh : ∀ n, t.held n = s.held n := fun n => by rw [h]; rfl
  have es : t.store = s.store := by rw [h]
  have bound : ∀ n, (s.lane n).state ≠ .off → (t.lane n).state ≠ .off := fun n hn =>
    (hl n).elim (fun e => e ▸ hn) fun k => k.bound
  have free : ∀ n, (s.lane n).binding.suspended = false → (t.lane n).binding.suspended = false := fun n hn =>
    (hl n).elim (fun e => e ▸ hn) fun k => Bool.eq_false_iff.mpr fun e => by simp [k.suspended e] at hn
  refine ⟨?_, ?_, hc, ?_, ?_⟩
  · rintro ⟨hc, hm⟩
    refine ⟨fun i a ha => ?_, fun n c hn => ?_⟩
    · obtain ⟨h1, h2⟩ := hc i a (by rwa [ec] at ha)
      exact ⟨bound _ h1, fun e => free _ (h2 e)⟩
    · obtain ⟨h1, h2⟩ := hm n c (by rwa [em] at hn)
      exact ⟨bound _ h1, free _ h2⟩
  · intro ho n hn
    rcases hl n with e | k
    · rw [e, eh]; exact ho n (e ▸ hn)
    · exact absurd hn k.bound
  · intro hz n
    rcases hl n with e | k
    · rw [e]; exact hz n
    · exact k.zero (hz n)
  · rintro ⟨hv, hi⟩
    refine ⟨fun n => ?_, by simpa only [ImageLaw, es] using hi⟩
    rcases hl n with e | k
    · rw [e]; exact hv n
    · exact k.level (hv n)

/-- Lanes rewritten in place, none of them into or out of CAPTURE. -/
theorem KeepsLaws.of_lanes {s t : State} (h : t = { s with lanes := t.lanes })
    (hl : ∀ n, t.lane n = s.lane n ∨
      (s.lane n).Keeps (t.lane n) ∧ ((t.lane n).state = .capture ↔ (s.lane n).state = .capture)) : KeepsLaws s t := by
  refine .of_rewritten (by rw [h]) (fun n => (hl n).imp_right And.left) ?_
  have ep : ∀ i, t.capture i = s.capture i := fun i => by rw [h]; rfl
  have e : ∀ n, ((t.lane n).state = .capture ↔ (s.lane n).state = .capture) := fun n =>
    (hl n).elim (fun e => by rw [e]) And.right
  simp only [CaptureLaw, ep, e, imp_self]

theorem putLane_cases {s : State} {n : LaneId} {l : Lane} {P : LaneId → Lane → Prop} (h : P n l) (m : LaneId) :
    (s.putLane n l).lane m = s.lane m ∨ P m ((s.putLane n l).lane m) := by
  by_cases e : m = n
  · subst e; rw [State.lane_putLane_self]; exact .inr h
  · exact .inl (State.lane_putLane_ne s n m l e)

theorem KeepsLaws.putLane {s : State} {n : LaneId} {l : Lane} (h : (s.lane n).Keeps l)
    (hc : l.state = .capture ↔ (s.lane n).state = .capture) : KeepsLaws s (s.putLane n l) :=
  .of_lanes rfl (putLane_cases (P := fun m k => (s.lane m).Keeps k ∧ (k.state = .capture ↔ (s.lane m).state = .capture)) ⟨h, hc⟩)

/-- A lane rewritten together with the capture slots. -/
theorem KeepsLaws.withSlot {s : State} {i : CaptureId} {c : Option Capture} {n : LaneId} {l : Lane} (h : (s.lane n).Keeps l)
    (hc : CaptureLaw s → CaptureLaw ((s.putCapture i c).putLane n l)) : KeepsLaws s ((s.putCapture i c).putLane n l) :=
  .of_rewritten rfl (putLane_cases (P := fun m k => (s.lane m).Keeps k) (s := s.putCapture i c) h) hc

/-- The journal and the hold slots: a record enters the slot of a bound lane only. -/
theorem KeepsLaws.of_holds {s t : State} (h : JournalTouched s t)
    (hh : ∀ n, t.held n = s.held n ∨ t.held n = none ∨ (s.lane n).state ≠ .off) : KeepsLaws s t := by
  have el : ∀ n, t.lane n = s.lane n := fun n => by rw [h]; rfl
  have ec : ∀ i, t.callAt i = s.callAt i := fun i => by rw [h]; rfl
  have em : ∀ n, t.marker n = s.marker n := fun n => by rw [h]; rfl
  have ep : ∀ i, t.capture i = s.capture i := fun i => by rw [h]; rfl
  have es : t.store = s.store := by rw [h]
  constructor
  · simp only [QuietLanes, el, ec, em, imp_self]
  · intro ho n hn
    rw [el] at hn ⊢
    obtain ⟨h1, h2⟩ := ho n hn
    refine ⟨h1, ?_⟩
    rcases hh n with e | e | e
    · rw [e, h2]
    · exact e
    · exact absurd hn e
  · simp only [CaptureLaw, el, ep, imp_self]
  · simp only [ZeroLaw, el, imp_self]
  · simp only [LevelLaw, ImageLaw, el, es, imp_self]

/-! ### Capture slots (R77) -/

/-- A slot that runs for a lane. -/
theorem CaptureLaw.running {s : State} (h : CaptureLaw s) {i : CaptureId} {c : Capture} (hi : s.capture i = some c) :
    (s.lane c.lane).state = .capture := (h.1 c.lane).mpr ⟨i, by rw [hi]; rfl⟩

/-- A capture begins in a FREE slot, on a lane that is not in CAPTURE. -/
theorem CaptureLaw.begin {s : State} {i : CaptureId} {n : LaneId} {c : Capture} {l : Lane} (hi : s.capture i = none)
    (hn : (s.lane n).state ≠ .capture) (hc : c.lane = n) (hl : l.state = .capture) (h : CaptureLaw s) :
    CaptureLaw ((s.putCapture i (some c)).putLane n l) := by
  have other : ∀ j a, s.capture j = some a → a.lane ≠ n := fun j a ha e => hn (e ▸ h.running ha)
  refine ⟨fun m => ?_, fun j k a b ha hb hab => ?_⟩
  · rw [State.lane_putLane]
    simp only [State.capture_putLane, State.capture_putCapture, State.lane_putCapture]
    by_cases e : m = n
    · subst e
      simp only [if_true, hl, true_iff]
      exact ⟨i, by simp [hc]⟩
    · rw [if_neg e, h.1 m]
      constructor
      · rintro ⟨j, hj⟩
        have : j ≠ i := fun e => by simp [e, hi] at hj
        exact ⟨j, by rwa [if_neg this]⟩
      · rintro ⟨j, hj⟩
        by_cases ej : j = i
        · rw [if_pos ej, Option.map_some, Option.some.injEq, hc] at hj
          exact absurd hj.symm e
        · exact ⟨j, by rwa [if_neg ej] at hj⟩
  · simp only [State.capture_putLane, State.capture_putCapture] at ha hb
    split at ha <;> split at hb
    · simp_all
    · cases ha
      exact absurd (hab.symm.trans hc) (other _ _ hb)
    · cases hb
      exact absurd (hab.trans hc) (other _ _ ha)
    · exact h.2 _ _ _ _ ha hb hab

/-- A capture ends: its slot is freed and its lane leaves CAPTURE. -/
theorem CaptureLaw.finish {s : State} {i : CaptureId} {n : LaneId} {c : Capture} {l : Lane} (hi : s.capture i = some c)
    (hc : c.lane = n) (hl : l.state ≠ .capture) (h : CaptureLaw s) : CaptureLaw ((s.putCapture i none).putLane n l) := by
  refine ⟨fun m => ?_, fun j k a b ha hb hab => ?_⟩
  · rw [State.lane_putLane]
    simp only [State.capture_putLane, State.capture_putCapture, State.lane_putCapture]
    by_cases e : m = n
    · subst e
      simp only [if_true, hl, false_iff]
      rintro ⟨j, hj⟩
      split at hj
      · cases hj
      · next ej =>
        obtain ⟨b, hb, e⟩ := Option.map_eq_some_iff.mp hj
        exact ej (h.2 _ _ _ _ hb hi (e.trans hc.symm))
    · rw [if_neg e, h.1 m]
      refine exists_congr fun j => ?_
      split
      · next ej => simp [ej, hi, hc, Ne.symm e]
      · rfl
  · simp only [State.capture_putLane, State.capture_putCapture] at ha hb
    split at ha <;> split at hb <;> try contradiction
    exact h.2 _ _ _ _ ha hb hab

/-- A running capture goes on: its slot stays the lane's. -/
theorem CaptureLaw.goOn {s : State} {i : CaptureId} {c d : Capture} (hi : s.capture i = some c) (hd : d.lane = c.lane)
    (h : CaptureLaw s) : CaptureLaw (s.putCapture i (some d)) := by
  have e : ∀ j, ((s.putCapture i (some d)).capture j).map Capture.lane = (s.capture j).map Capture.lane := fun j => by
    rw [State.capture_putCapture]
    split
    · next ej => simp [ej, hi, hd]
    · rfl
  refine ⟨fun m => by simp only [e, State.lane_putCapture, h.1 m], fun j k a b ha hb hab => ?_⟩
  have key : ∀ {j a}, (s.putCapture i (some d)).capture j = some a → ∃ a', s.capture j = some a' ∧ a'.lane = a.lane :=
    fun {j a} ha => Option.map_eq_some_iff.mp (by rw [← e, ha]; rfl)
  obtain ⟨a', ha', ea⟩ := key ha
  obtain ⟨b', hb', eb⟩ := key hb
  exact h.2 _ _ _ _ ha' hb' (ea.trans (hab.trans eb.symm))

theorem KeepsLaws.putCapture {s : State} {i : CaptureId} {c d : Capture} (hi : s.capture i = some c) (hd : d.lane = c.lane) :
    KeepsLaws s (s.putCapture i (some d)) :=
  .of_rewritten rfl (fun _ => .inl rfl) (.goOn hi hd)

/-! ### SUSPEND_LANE, UNBIND_LANE and restart (R12, R16, R20) -/

/-- A lane whose calls that satisfy `p` are freed and whose markers are cleared, ahead of placement. -/
def State.freed (s : State) (n : LaneId) (p : Call → Bool) : State :=
  (s.putMarker n Markers.clear).freeWhere p

theorem State.callAt_freed {s : State} {n : LaneId} {p : Call → Bool} {i : SlotId} {a : Call} :
    (s.freed n p).callAt i = some a ↔ s.callAt i = some a ∧ p a = false := by
  rw [State.freed, State.callAt_freeWhere, Option.filter_eq_some_iff, State.callAt_putMarker]
  simp

theorem State.has_freed {s : State} {n m : LaneId} {p : Call → Bool} {c : Cause} :
    ((s.freed n p).marker m).has c = true ↔ (s.marker m).has c = true ∧ m ≠ n := by
  rw [State.freed, State.marker_freeWhere, State.marker_putMarker]
  by_cases e : m = n <;> simp [e]

theorem State.touched_freed (s : State) (n : LaneId) (p : Call → Bool) : CallsOnly s (s.freed n p) := by
  have h := s.touched_putMarker n Markers.clear
  unfold State.freed
  generalize s.putMarker n Markers.clear = t at h ⊢
  exact h.trans (t.touched_freeWhere p)

/-- One lane rewritten together with the call controller's state. -/
theorem KeepsLaws.of_lane_and_calls {s t : State} {n : LaneId} {l : Lane} (ht : CallsOnly (s.putLane n l) t)
    (hq : QuietLanes s → QuietLanes t) (ho : l.state = .off → l = Lane.off n ∧ s.held n = none)
    (hc : l.state = .capture ↔ (s.lane n).state = .capture) (hz : (s.lane n).ZeroInRange → l.ZeroInRange)
    (hv : (s.lane n).LevelInOrder → l.LevelInOrder) : KeepsLaws s t := by
  have el : ∀ m, t.lane m = if m = n then l else s.lane m := fun m => by rw [ht.lane, State.lane_putLane]
  have ec : ∀ m, (t.lane m).state = .capture ↔ (s.lane m).state = .capture := fun m => by
    rw [el]
    split
    · next e => rw [hc, e]
    · rfl
  refine ⟨hq, fun h m hm => ?_, ?_, fun h m => ?_, fun ⟨hl, hi⟩ => ⟨fun m => ?_, ?_⟩⟩
  · rw [ht.held, State.held_putLane]
    rw [el] at hm ⊢
    split at hm
    · next e => subst e; simpa using ho hm
    · next e => rw [if_neg e]; exact h m hm
  · simp only [CaptureLaw, ec, ht.capture, State.capture_putLane, imp_self]
  · rw [el]
    split
    · next e => exact hz (e ▸ h m)
    · exact h m
  · rw [el]
    split
    · next e => exact hv (e ▸ hl m)
    · exact hl m
  · simpa only [ImageLaw, ht.store, State.putLane_store] using hi

/-- Every call after placement is one that was not freed, or stands for a marker that was not cleared. -/
theorem State.callAt_place_freed {s : State} {n : LaneId} {p : Call → Bool} {i : SlotId} {a : Call}
    (h : (s.freed n p).place.callAt i = some a) :
    s.callAt i = some a ∧ p a = false ∨ (s.marker a.lane).has a.cause = true ∧ a.lane ≠ n := by
  rcases State.callAt_place h with h | ⟨-, x, hx, rfl⟩
  · exact .inl (State.callAt_freed.mp h)
  · exact .inr (State.has_freed.mp (State.mem_needs.mp (State.placements_mem hx)).1)

theorem State.has_place_freed {s : State} {n m : LaneId} {p : Call → Bool} {c : Cause}
    (h : ((s.freed n p).place.marker m).has c = true) : (s.marker m).has c = true ∧ m ≠ n :=
  State.has_freed.mp (State.has_place.mp h).1

/-- R16, R144: the flag, the markers and the RAISED calls, then placement. -/
theorem State.suspend_eq (s : State) (n : LaneId) : s.suspend n =
    ((s.putLane n ((s.lane n).suspendWith true (s.lane n).binding.baselineNeeded)).freed n
      fun a => a.lane == n && a.state == .raised).place := rfl

/-- R12, R147: the markers and all the calls, then placement, and the lane is OFF. -/
theorem State.unbind_eq (s : State) (n : LaneId) :
    s.unbind n = (s.freed n fun a => a.lane == n).place.putLane n (Lane.off n) := rfl

theorem KeepsLaws.suspend {s : State} {n : LaneId} (hn : (s.lane n).state ≠ .off) : KeepsLaws s (s.suspend n) := by
  have ht : CallsOnly (s.putLane n ((s.lane n).suspendWith true (s.lane n).binding.baselineNeeded)) (s.suspend n) := by
    rw [State.suspend_eq]
    exact (State.touched_freed _ _ _).trans (State.touched_place _)
  refine .of_lane_and_calls ht ?_ (fun h => absurd h hn) Iff.rfl id id
  rintro ⟨hc, hm⟩
  have el : ∀ m, m ≠ n → (s.suspend n).lane m = s.lane m := fun m e => by rw [ht.lane, State.lane_putLane_ne _ _ _ _ e]
  have en : ((s.suspend n).lane n).state ≠ .off := by rwa [ht.lane, State.lane_putLane_self]
  refine ⟨fun i a ha => ?_, fun m c h => ?_⟩
  · rw [State.suspend_eq] at ha
    rcases State.callAt_place_freed ha with ⟨h, hp⟩ | ⟨h, e⟩
    · rw [State.callAt_putLane] at h
      by_cases e : a.lane = n
      · have hr : a.state ≠ .raised := by simpa [e] using hp
        exact ⟨by rw [e]; exact en, fun h => absurd h hr⟩
      · rw [el _ e]; exact hc i a h
    · rw [el _ e]
      have := hm _ _ h
      exact ⟨this.1, fun _ => this.2⟩
  · rw [State.suspend_eq] at h
    obtain ⟨h, e⟩ := State.has_place_freed h
    rw [el _ e]
    exact hm _ _ h

theorem Lane.off_zeroInRange (n : LaneId) : (Lane.off n).ZeroInRange := by
  simp [Lane.off, Lane.ZeroInRange, Calibration.factory]

theorem Lane.off_levelInOrder (n : LaneId) : (Lane.off n).LevelInOrder :=
  ⟨by simp [Lane.off, Binding.factory], fun h => absurd rfl h, fun _ => rfl⟩

theorem CallsOnly.putLane {s t : State} (h : CallsOnly s t) (n : LaneId) (l : Lane) :
    CallsOnly (s.putLane n l) (t.putLane n l) := by
  unfold CallsOnly at h ⊢
  conv_lhs => rw [h]
  rfl

theorem KeepsLaws.unbind {s : State} {n : LaneId} (hn : (s.lane n).state ≠ .capture) (hh : s.held n = none) :
    KeepsLaws s (s.unbind n) := by
  have ht : CallsOnly (s.putLane n (Lane.off n)) (s.unbind n) := (s.touched_unbindCalls n).putLane n _
  refine .of_lane_and_calls ht ?_ (fun _ => ⟨rfl, hh⟩) (by simp [Lane.off, hn]) (fun _ => Lane.off_zeroInRange n)
    fun _ => Lane.off_levelInOrder n
  rintro ⟨hc, hm⟩
  have el : ∀ m, m ≠ n → (s.unbind n).lane m = s.lane m := fun m e => by rw [ht.lane, State.lane_putLane_ne _ _ _ _ e]
  refine ⟨fun i a ha => ?_, fun m c h => ?_⟩
  · rw [State.unbind_eq, State.callAt_putLane] at ha
    rcases State.callAt_place_freed ha with ⟨h, hp⟩ | ⟨h, e⟩
    · rw [el _ (by simpa using hp)]
      exact hc i a h
    · rw [el _ e]
      have := hm _ _ h
      exact ⟨this.1, fun _ => this.2⟩
  · rw [State.unbind_eq, State.marker_putLane] at h
    obtain ⟨h, e⟩ := State.has_place_freed h
    rw [el _ e]
    exact hm _ _ h

/-! ### The restart sequence, block by block (R198) -/

section
variable (s : State)

/-- The image in force after a restart. -/
def State.imageInForce (s : State) : Image :=
  s.store.image.getD Image.factory

theorem State.lane_restart (n : LaneId) : s.restart.lane n = bootLane n s.imageInForce.lanes[n] := by
  simp [State.restart, State.lane, State.imageInForce]

@[simp] theorem State.callAt_restart (i : SlotId) : s.restart.callAt i = none := by
  simp [State.restart, State.callAt, State.entry, CallEntry.fresh]

@[simp] theorem State.marker_restart (n : LaneId) : s.restart.marker n = Markers.clear := by
  simp [State.restart, State.marker]

@[simp] theorem State.held_restart (n : LaneId) : s.restart.held n = none := by
  simp [State.restart, State.held]

@[simp] theorem State.capture_restart (i : CaptureId) : s.restart.capture i = none := by
  simp [State.restart, State.capture]

@[simp] theorem State.image_restart : s.restart.store.image = s.store.image := rfl

@[simp] theorem State.copy_restart : s.restart.store.copy = none := rfl
end

/-- A lane that an image holds comes out of restart MOVING, any other OFF with its factory defaults. -/
theorem bootLane_cases (n : LaneId) (i : Option LaneImage) :
    bootLane n i = Lane.off n ∨ (bootLane n i).state = .moving := by
  cases i with
  | none => exact .inl rfl
  | some i => exact .inr rfl

theorem bootLane_zeroInRange (n : LaneId) (i : Option LaneImage) : (bootLane n i).ZeroInRange := by
  cases i with
  | none => exact Lane.off_zeroInRange n
  | some i => simp [bootLane, Lane.ZeroInRange]

theorem bootLane_levelInOrder {n : LaneId} {i : Option LaneImage} (h : ∀ l, i = some l → l.lowMark < l.clearMark) :
    (bootLane n i).LevelInOrder := by
  cases i with
  | none => exact Lane.off_levelInOrder n
  | some i => exact ⟨h i rfl, fun h => absurd rfl h, fun _ => rfl⟩

theorem KeepsLaws.restart (s : State) : KeepsLaws s s.restart where
  quiet _ := ⟨fun i a h => by simp at h, fun n c h => by simp at h⟩
  off _ n hn := by
    rw [State.lane_restart] at hn ⊢
    rcases bootLane_cases n s.imageInForce.lanes[n] with h | h
    · exact ⟨h, State.held_restart s n⟩
    · rw [h] at hn; cases hn
  capture _ := by
    refine ⟨fun n => ?_, fun i j a b h => by simp at h⟩
    rw [State.lane_restart]
    have hb : (bootLane n s.imageInForce.lanes[n]).state ≠ .capture := by
      rcases bootLane_cases n s.imageInForce.lanes[n] with h | h <;> rw [h] <;> simp [Lane.off]
    simp only [hb, State.capture_restart, Option.map_none, reduceCtorEq, exists_false]
  zero _ n := by
    rw [State.lane_restart]
    exact bootLane_zeroInRange n _
  level := by
    rintro ⟨-, hi⟩
    refine ⟨fun n => ?_, fun i h => hi i (.inl (by simpa using h))⟩
    rw [State.lane_restart]
    refine bootLane_levelInOrder fun l hl => ?_
    unfold State.imageInForce at hl
    cases e : s.store.image with
    | none => simp [e, Image.factory] at hl
    | some i => exact hi i (.inl e) n l (by simpa [e] using hl)

end Sys2Proof.Machine
end

section
/-! SUPPORT. Conversions and ticks keep the laws of the lanes. -/

namespace Sys2Proof.Machine

/-! ### The journal and the watch unit keep the laws -/

theorem State.held_noteJournalEntry (s : State) (n : LaneId) : s.noteJournalEntry.held n = s.held n := by
  unfold State.noteJournalEntry; split <;> rfl

theorem State.held_append (s : State) (m : Movement) (n : LaneId) : (s.append m).held n = s.held n :=
  State.held_noteJournalEntry _ n

theorem State.held_journalEntry (s : State) (m : Movement) (n : LaneId) :
    (s.journalEntry m).held n = s.held n ∨ n = m.lane := by
  by_cases e : n = m.lane
  · exact .inr e
  · left
    unfold State.journalEntry
    split
    · exact s.held_append m n
    · split
      · exact State.held_putHeld_ne s _ _ _ e
      · exact State.held_putHeld_ne s _ _ _ e

theorem KeepsLaws.journalEntry {s : State} {m : Movement} (h : (s.lane m.lane).state ≠ .off) :
    KeepsLaws s (s.journalEntry m) :=
  .of_holds (s.journal_entry m) fun n => (s.held_journalEntry m n).imp_right fun e => .inr (by rw [e]; exact h)

theorem State.held_drainUpTo (fuel : Nat) (s : State) (n : LaneId) :
    (s.drainUpTo fuel).held n = s.held n ∨ (s.drainUpTo fuel).held n = none := by
  induction fuel generalizing s with
  | zero => exact .inl rfl
  | succ fuel ih =>
    unfold State.drainUpTo
    split
    · next t ht =>
      refine (ih t).elim (fun e => ?_) .inr
      rw [e]
      unfold State.drainOne at ht
      split at ht
      · split at ht
        · next k m _ =>
          cases ht
          rw [State.held_append, State.held_putHeld]
          split
          · exact .inr rfl
          · exact .inl rfl
        · cases ht
      · cases ht
    · exact .inl rfl

theorem KeepsLaws.removeHead (s : State) (k : Nat) : KeepsLaws s (s.removeHead k) := by
  refine .of_holds (s.journal_removeHead k) fun n => ?_
  unfold State.removeHead
  split
  · exact .inl rfl
  · exact (State.held_drainUpTo 48 { s with journal := s.journal.drop k } n).imp_right .inl

theorem KeepsLaws.clearJournal (s : State) : KeepsLaws s s.clearJournal :=
  .of_holds rfl fun n => .inr (.inl (by simp [State.clearJournal, State.held]))

theorem KeepsLaws.watchEvaluate (s : State) (m : Movement) : KeepsLaws s (s.watchEvaluate m) := by
  unfold State.watchEvaluate
  have h : KeepsLaws s { s with rules := mapTable s.rules fun _ r => ruleAfter r m } := .of_tables rfl rfl rfl rfl rfl rfl
  dsimp only
  split
  · exact h.trans (.of_calls (.assertSource _ _ _ _))
  · exact h

theorem State.lane_watchEvaluate (s : State) (m : Movement) (n : LaneId) : (s.watchEvaluate m).lane n = s.lane n := by
  unfold State.watchEvaluate
  dsimp only
  split
  · exact (State.touched_assertSource _ _ _ _).lane n
  · rfl

theorem State.lane_journalEntry (s : State) (m : Movement) (n : LaneId) : (s.journalEntry m).lane n = s.lane n := by
  rw [s.journal_entry m]; rfl

/-! ### Plateaus and zero tracking keep the laws (R46 to R60) -/

theorem Lane.tracked_state (l : Lane) : l.tracked.state = l.state := by
  unfold Lane.tracked
  dsimp only
  split
  · rfl
  · split <;> rfl

section
variable {s : State} {n : LaneId} (hn : (s.lane n).state ≠ .off)
include hn

theorem KeepsLaws.baseline : KeepsLaws s (s.baseline n) := by
  have h := KeepsLaws.putLane (Lane.keeps_baseline hn) Iff.rfl
  unfold State.baseline
  dsimp only
  split
  · exact (h.trans (.of_calls (.handLevel _ _ _ _))).trans (.of_calls (.sweep _ _))
  · exact h.trans (.of_calls (.handLevel _ _ _ _))

theorem KeepsLaws.ordinary : KeepsLaws s (s.ordinary n) := by
  have h := KeepsLaws.putLane (Lane.keeps_commit hn (s.lane n).committed.level) Iff.rfl
  unfold State.ordinary
  dsimp only
  refine KeepsLaws.trans ?_ (.of_calls (.handLevel _ _ _ _))
  split
  · exact h
  · refine (h.trans (.watchEvaluate _ _)).trans (.journalEntry ?_)
    rw [State.lane_watchEvaluate]
    simpa [State.formMovement, Lane.commit] using hn

theorem KeepsLaws.track : KeepsLaws s (s.track n) := by
  unfold State.track
  split
  · exact (KeepsLaws.putLane (Lane.keeps_tracked hn) (by rw [Lane.tracked_state])).trans (.of_calls (.handFault _ _ _))
  · exact .refl s
end

theorem State.state_baseline (s : State) (n : LaneId) : ((s.baseline n).lane n).state = (s.lane n).state := by
  unfold State.baseline
  dsimp only
  split
  · rw [(State.touched_sweep _ _).lane, (State.touched_handLevel _ _ _ _).lane, State.lane_putLane_self]; rfl
  · rw [(State.touched_handLevel _ _ _ _).lane, State.lane_putLane_self]; rfl

theorem State.state_ordinary (s : State) (n : LaneId) : ((s.ordinary n).lane n).state = (s.lane n).state := by
  unfold State.ordinary
  dsimp only
  rw [(State.touched_handLevel _ _ _ _).lane]
  split
  · rw [State.lane_putLane_self]; rfl
  · rw [State.lane_journalEntry, State.lane_watchEvaluate, State.lane_putLane_self]; rfl

theorem KeepsLaws.plateau {s : State} {n : LaneId} (hn : (s.lane n).state ≠ .off) : KeepsLaws s (s.plateau n) := by
  unfold State.plateau
  split
  · exact .refl s
  · split
    · exact (KeepsLaws.baseline hn).trans (.track (by rwa [State.state_baseline]))
    · exact (KeepsLaws.ordinary hn).trans (.track (by rwa [State.state_ordinary]))

/-! ### Captures keep the laws (R79 to R88) -/

theorem State.putLane_putLane (s : State) (n : LaneId) (l k : Lane) : (s.putLane n l).putLane n k = s.putLane n k := by
  simp [State.putLane, Vector.set_set]

theorem State.captureSlot_putLane (s : State) (n m : LaneId) (l : Lane) :
    (s.putLane n l).captureSlot m = s.captureSlot m := rfl

theorem KeepsLaws.enterFault (s : State) (n : LaneId) (c : Condition) :
    KeepsLaws s ((s.putLane n ((s.lane n).enterFault c)).abortCapture n) := by
  have hk := Lane.keeps_enterFault (s.lane n) c
  unfold State.abortCapture
  rw [State.captureSlot_putLane]
  split
  · next i hi =>
    obtain ⟨a, ha, hl⟩ := State.captureSlot_some hi
    rw [State.lane_putLane_self]
    have e : ((s.putLane n ((s.lane n).enterFault c)).putCapture i none).putLane n
        { (s.lane n).enterFault c with outcome := .abortedFault } =
      (s.putCapture i none).putLane n { (s.lane n).enterFault c with outcome := .abortedFault } :=
        State.putLane_putLane (s.putCapture i none) n _ _
    rw [e]
    exact .withSlot (hk.trans (.of_eq (by simp [Lane.enterFault]) rfl rfl rfl rfl rfl))
      (.finish ha hl (by simp [Lane.enterFault]))
  · next hi =>
    refine .of_rewritten rfl (putLane_cases (P := fun m k => (s.lane m).Keeps k) hk) fun h => ?_
    have hn : (s.lane n).state ≠ .capture := fun e => by
      obtain ⟨i, hi'⟩ := (h.1 n).mp e
      obtain ⟨a, ha, hl⟩ := Option.map_eq_some_iff.mp hi'
      exact State.captureSlot_none.mp hi i a ha hl
    exact (KeepsLaws.putLane hk (by simp [Lane.enterFault, hn])).capture h

theorem KeepsLaws.faultEntry (s : State) (n : LaneId) (c : Condition) : KeepsLaws s (s.faultEntry n c) := by
  have h := KeepsLaws.enterFault s n c
  unfold State.faultEntry
  dsimp only
  generalize (s.putLane n ((s.lane n).enterFault c)).abortCapture n = t at h ⊢
  have ha : KeepsLaws t (t.notify fun a => { a with fault := true }) := .of_tables rfl rfl rfl rfl rfl rfl
  exact (h.trans ha).trans (.of_calls (.assertSource _ _ _ _))

theorem KeepsLaws.endCapture {s : State} {i : CaptureId} {c : Capture} (hi : s.capture i = some c) (o : CaptureOutcome) :
    KeepsLaws s (s.endCapture i c.lane o) :=
  .withSlot (Lane.keeps_leaveCapture _ o) (.finish hi rfl (by simp [Lane.leaveCapture]))

theorem KeepsLaws.beginCapture {s : State} {i : CaptureId} {n : LaneId} (hi : s.capture i = none)
    (hn : (s.lane n).state ≠ .capture) (kind : CaptureKind) (mass : Nat) : KeepsLaws s (s.beginCapture i n kind mass) :=
  .withSlot (Lane.keeps_enterCapture _) (.begin hi hn rfl rfl)

theorem KeepsLaws.completeCapture {s : State} {i : CaptureId} {c : Capture} (hi : s.capture i = some c) :
    KeepsLaws s (s.completeCapture i c.lane c) := by
  unfold State.completeCapture
  split
  · have h : KeepsLaws s ((s.putCapture i none).putLane c.lane (s.lane c.lane).zeroed) :=
      .withSlot (Lane.keeps_zeroed _) (.finish hi rfl (by simp [Lane.zeroed]))
    dsimp only
    split
    · exact h.trans (.of_calls (.clearSource _ _ _))
    · exact h
  · exact .withSlot (Lane.keeps_spanned _ _) (.finish hi rfl (by unfold Lane.spanned; split <;> simp))

theorem KeepsLaws.captureNormal {s : State} {i : CaptureId} {c : Capture} (hi : s.capture i = some c)
    (hn : (s.lane c.lane).state ≠ .off) (r : Int) : KeepsLaws s (s.captureNormal c.lane i c r) := by
  unfold State.captureNormal
  split
  · exact (KeepsLaws.putCapture hi (d := { c with restartPending := false }) rfl).trans
      (.putLane (Lane.keeps_refilter hn r) Iff.rfl)
  · have h := KeepsLaws.putLane (Lane.keeps_filter hn r) Iff.rfl
    dsimp only
    split
    · exact h.trans (.completeCapture hi)
    · exact h

/-! ### Conversions keep the laws (R33) -/

theorem KeepsLaws.abnormalConversion {s : State} {n : LaneId} (hn : (s.lane n).state ≠ .off) (c : Condition) :
    KeepsLaws s (s.abnormalConversion n c) := by
  have h := KeepsLaws.putLane (Lane.keeps_abnormal hn) (by
    unfold Lane.abnormal
    dsimp only
    split
    · next e => simp [e]
    · rfl)
  unfold State.abnormalConversion
  dsimp only
  split
  · exact h
  · exact h.trans (.faultEntry _ n c)

theorem KeepsLaws.faultRecovery {s : State} {n : LaneId} (hn : (s.lane n).state = .fault) (r : Int) :
    KeepsLaws s (s.faultRecovery n r) := by
  have h := KeepsLaws.putLane (Lane.keeps_recovered (s.lane n) r) (by simp [hn, Lane.recovered, Lane.measured])
  unfold State.faultRecovery
  dsimp only
  split
  · exact h
  · exact h.trans (.of_calls (.clearSource _ _ _))

theorem KeepsLaws.movingNormal {s : State} {n : LaneId} (hn : (s.lane n).state = .moving) (r : Int) :
    KeepsLaws s (s.movingNormal n r) := by
  unfold State.movingNormal
  dsimp only
  split
  · refine (KeepsLaws.putLane (Lane.keeps_followed r (st := .stable) (by decide)) (by simp [hn])).trans (.plateau ?_)
    rw [State.lane_putLane_self]
    simp
  · exact .putLane (.of_eq (by simp [Lane.followed, Lane.filter, Lane.measured, hn]) rfl rfl rfl rfl rfl) Iff.rfl

theorem KeepsLaws.stableNormal {s : State} {n : LaneId} (hn : (s.lane n).state = .stable) (r : Int) :
    KeepsLaws s (s.stableNormal n r) := by
  unfold State.stableNormal
  dsimp only
  split
  · exact .putLane (Lane.keeps_followed r (by decide)) (by simp [hn])
  · exact .putLane (Lane.keeps_followed r (by decide)) (by simp [hn])

theorem KeepsLaws.takeConversion (s : State) (n : LaneId) (rd : Reading) : KeepsLaws s (s.takeConversion n rd) := by
  unfold State.takeConversion
  dsimp only
  split
  · exact .refl s
  · next hn =>
    split
    · exact .movingNormal hn _
    · exact .abnormalConversion (by simp [hn]) _
  · next hn =>
    split
    · exact .stableNormal hn _
    · exact .abnormalConversion (by simp [hn]) _
  · next hn =>
    have ho : (s.lane n).state ≠ .off := by simp [hn]
    split
    · split
      · next i hi =>
        obtain ⟨c, hc, rfl⟩ := State.captureSlot_some hi
        rw [hc]
        exact .captureNormal hc ho _
      · exact .putLane (Lane.keeps_filter ho _) Iff.rfl
    · exact .abnormalConversion ho _
  · next hn =>
    have ho : (s.lane n).state ≠ .off := by simp [hn]
    split
    · split
      · exact .faultRecovery hn _
      · exact .putLane (Lane.keeps_recovering ho) Iff.rfl
    · exact .putLane (Lane.keeps_relapsed ho _) Iff.rfl

theorem KeepsLaws.converted (s : State) (rd : Reading) : KeepsLaws s (s.converted rd) := by
  unfold State.converted
  split
  · exact (KeepsLaws.takeConversion s _ rd).trans (.of_tables rfl rfl rfl rfl rfl rfl)
  · exact .refl s

/-! ### The tick keeps the laws (R153, R169) -/

theorem KeepsLaws.foldl {α : Type} {f : State → α → State} (h : ∀ s a, KeepsLaws s (f s a)) (l : List α) (s : State) :
    KeepsLaws s (l.foldl f s) := by
  induction l generalizing s with
  | nil => exact .refl s
  | cons a l ih => exact (h s a).trans (ih _)

theorem KeepsLaws.captureTick (s : State) (i : CaptureId) : KeepsLaws s (s.captureTick i) := by
  unfold State.captureTick
  split
  · next c hc =>
    split
    · exact .endCapture hc .timeout
    · exact .putCapture hc rfl
  · exact .refl s

/-- Calls rewritten in place: each keeps its lane, and none becomes RAISED. -/
theorem CallsKept.ofCalls (s : State) (v : Vector CallEntry 32)
    (h : ∀ (i : SlotId) a, v[i].call = some a →
      ∃ b, s.callAt i = some b ∧ b.lane = a.lane ∧ (a.state = .raised → b.state = .raised)) :
    CallsKept s { s with calls := v } where
  only := rfl
  calls i a ha := by
    obtain ⟨b, hb, hl, hr⟩ := h i a ha
    exact .inr ⟨i, b, hb, hl, fun h => .inl (hr h)⟩
  markers _ _ h := State.marked_mayCall h

theorem State.callTick_lane (s : State) (c : Call) : (s.callTick c).1.lane = c.lane := by
  unfold State.callTick State.renotified Call.expired
  repeat' split
  all_goals rfl

theorem State.callTick_state (s : State) (c : Call) : (s.callTick c).1.state = c.state := by
  unfold State.callTick State.renotified Call.expired
  repeat' split
  all_goals rfl

theorem KeepsLaws.callsTick (s : State) : KeepsLaws s s.callsTick := by
  unfold State.callsTick
  generalize hv : mapTable s.calls _ = v
  refine (KeepsLaws.of_calls (CallsKept.ofCalls s v fun i a ha => ?_)).trans (.of_tables rfl rfl rfl rfl rfl rfl)
  rw [← hv, mapTable_get] at ha
  split at ha
  · next c hc =>
    simp only [Option.some.injEq] at ha
    subst ha
    exact ⟨c, hc, (s.callTick_lane c).symm, fun h => by rwa [s.callTick_state] at h⟩
  · next hc => rw [hc] at ha; cases ha

theorem KeepsLaws.putBay (s : State) (b : BayId) (r : Bay) : KeepsLaws s (s.putBay b r) :=
  .of_tables rfl rfl rfl rfl rfl rfl

theorem KeepsLaws.closeBayWindow (s : State) (b : BayId) : KeepsLaws s (s.closeBayWindow b) := by
  refine KeepsLaws.trans (.of_lanes rfl fun n => ?_) (.putBay _ b _)
  have e : State.lane { s with lanes := mapTable s.lanes fun _ l => if l.marksOnClose b then l.carried else l } n =
    if (s.lane n).marksOnClose b then (s.lane n).carried else s.lane n :=
    mapTable_get s.lanes (fun _ l => if l.marksOnClose b then l.carried else l) n
  rw [e]
  split
  · next h =>
    have hm : (s.lane n).state = .moving := by simpa [Lane.marksOnClose] using (Bool.and_eq_true_iff.mp h).2
    exact .inr ⟨Lane.keeps_carried (by simp [hm]), Iff.rfl⟩
  · exact .inl rfl

theorem KeepsLaws.openBayWindow (s : State) (b : BayId) (ticks : Nat) : KeepsLaws s (s.openBayWindow b ticks) :=
  .putBay s b _

theorem KeepsLaws.windowCountdown (s : State) (b : BayId) : KeepsLaws s (s.windowCountdown b) := by
  unfold State.windowCountdown
  split
  · split
    · exact .closeBayWindow s b
    · exact .openBayWindow s b _
  · exact .refl s

theorem KeepsLaws.keyStep (s : State) (b : BayId) (down : Bool) : KeepsLaws s (s.keyStep b down) := by
  unfold State.keyStep
  dsimp only
  split
  · have key : ∀ r, KeepsLaws s (s.putBay b r) := KeepsLaws.putBay s b
    split
    · exact key _
    · exact key _
    · exact key _
    · split
      · exact (key _).trans (.closeBayWindow _ b)
      · exact key _
    · exact (key _).trans (.openBayWindow _ b _)
  · exact .refl s

theorem KeepsLaws.overrideCountdown (s : State) (b : BayId) : KeepsLaws s (s.overrideCountdown b) := by
  unfold State.overrideCountdown
  split
  · split
    · exact .putBay s b _
    · exact .refl s
  · exact .refl s

theorem KeepsLaws.bayTick (keys : BitVec 6) (s : State) (b : BayId) : KeepsLaws s (s.bayTick keys b) :=
  (((KeepsLaws.windowCountdown s b).trans (.keyStep _ b _)).trans (.putBay _ b _)).trans (.overrideCountdown _ b)

theorem KeepsLaws.ticked (s : State) (t : TickInput) : KeepsLaws s (s.ticked t) := by
  have caps : ∀ u, KeepsLaws u u.capturesTick := fun u => .foldl KeepsLaws.captureTick _ u
  have bays : ∀ u : State, KeepsLaws u (u.baysTick t.keysDown) := fun u => .foldl (KeepsLaws.bayTick t.keysDown) _ u
  have clock : KeepsLaws s { s with tick := s.tick + 1 } := .of_tables rfl rfl rfl rfl rfl rfl
  unfold State.ticked
  dsimp only
  cases t.baysBeforeCaptures <;> cases t.baysBeforeCalls <;> simp only [if_true, if_false, Bool.false_eq_true]
  · exact ((clock.trans (caps _)).trans (.callsTick _)).trans (bays _)
  · exact ((clock.trans (caps _)).trans (bays _)).trans (.callsTick _)
  · exact ((clock.trans (.callsTick _)).trans (bays _)).trans (caps _)
  · exact ((clock.trans (bays _)).trans (caps _)).trans (.callsTick _)

end Sys2Proof.Machine
end

section
/-! SUPPORT. Every command keeps the laws of the lanes (O57, O58). -/

namespace Sys2Proof.Machine

/-! ### Requests keep the laws (R186 to R190) -/

theorem KeepsLaws.serve {act : State → Served} (h : ∀ s, KeepsLaws s (act s).state) (kind : Nat) (ro : Bool) (hd : Header)
    (p : List Byte) (s : State) : KeepsLaws s (serve kind ro hd p act s) := by
  have hunt : KeepsLaws s (s.setReceiver .hunt) := .of_tables rfl rfl rfl rfl rfl rfl
  rcases serve_cases kind ro hd p act s with e | e | e | e <;> rw [e]
  · exact .refl s
  · exact hunt
  · exact hunt.trans (h _)
  · exact (hunt.trans (h _)).trans (.of_tables rfl rfl rfl rfl rfl rfl)

section
variable {s t : State} {k : Served}

theorem keeps_accept (h : KeepsLaws s t) (body : List Byte) : KeepsLaws s (t.accept body).state := h

theorem keeps_unlessSaving (h : KeepsLaws s k.state) : KeepsLaws s (unlessSaving s k).state := by
  unfold unlessSaving; split
  · exact .refl s
  · exact h

theorem keeps_withLane {b : Byte} {k : LaneId → Served} (h : ∀ n, KeepsLaws s (k n).state) :
    KeepsLaws s (withLane s b k).state := by
  unfold withLane; split
  · exact h _
  · exact .refl s

theorem keeps_withBay {b : Byte} {k : BayId → Served} (h : ∀ n, KeepsLaws s (k n).state) :
    KeepsLaws s (withBay s b k).state := by
  unfold withBay; split
  · exact h _
  · exact .refl s

theorem keeps_unlessOff {n : LaneId} (h : (s.lane n).state ≠ .off → KeepsLaws s k.state) :
    KeepsLaws s (unlessOff s n k).state := by
  unfold unlessOff; split
  · exact .refl s
  · next hn => exact h hn

theorem keeps_unlessCapture {n : LaneId} (h : (s.lane n).state ≠ .capture → KeepsLaws s k.state) :
    KeepsLaws s (unlessCapture s n k).state := by
  unfold unlessCapture; split
  · exact .refl s
  · next hn => exact h hn

theorem keeps_require {ok : Bool} {st : Status} (h : ok = true → KeepsLaws s k.state) :
    KeepsLaws s (require s ok st k).state := by
  unfold require; split
  · next hk => exact h hk
  · exact .refl s

theorem keeps_withCall {slot g : Byte} {k : SlotId → Call → Served}
    (h : ∀ i c, s.callAt i = some c → KeepsLaws s (k i c).state) : KeepsLaws s (withCall s slot g k).state := by
  unfold withCall
  split
  · split
    · next c hc =>
      split
      · exact h _ c hc
      · exact .refl s
    · exact .refl s
  · exact .refl s
end

/-! ### The lane and calibration requests keep the laws -/

section
variable (p : List Byte) (s : State)

theorem keeps_laneSummary : KeepsLaws s (laneSummary p s).state := by
  unfold laneSummary; split <;> exact .refl s

theorem keeps_getLane : KeepsLaws s (getLane p s).state := by
  unfold getLane
  split
  · exact keeps_withLane fun n => .refl s
  · exact .refl s

/-- R9: BIND_LANE takes marks in order only. -/
theorem bindFields_marks {item : BitVec 32} {u tol low clear : Nat} {lc ec bay : Byte} {f : BindFields}
    (h : bindFields item u tol low clear lc ec bay = some f) : f.lowMark < f.clearMark := by
  unfold bindFields at h
  simp only [Option.bind_eq_bind, Option.bind_eq_some_iff] at h
  obtain ⟨_, -, _, -, _, -, h⟩ := h
  split at h
  · next hc =>
    cases h
    exact hc.2.2.1
  · cases h

theorem State.touched_offerChangedClass (n : LaneId) (b : Binding) : CallsOnly s (s.offerChangedClass n b) := by
  unfold State.offerChangedClass
  dsimp only
  split
  · split
    · exact .refl s
    · exact s.touched_offerClass _ _ _
  · split
    · exact .refl s
    · exact s.touched_offerClass _ _ _
  · exact .refl s

theorem CallsKept.offerChangedClass (n : LaneId) (b : Binding) : CallsKept s (s.offerChangedClass n b) := by
  unfold State.offerChangedClass
  dsimp only
  split
  · split
    · exact .refl s
    · exact .offerClass s _ _ _
  · split
    · exact .refl s
    · exact .offerClass s _ _ _
  · exact .refl s

theorem KeepsLaws.bind (n : LaneId) {f : BindFields} (hf : f.lowMark < f.clearMark) :
    KeepsLaws s (s.bind n f).state := by
  unfold State.bind
  refine keeps_accept ?_ _
  split
  · next ho =>
    have h : KeepsLaws s (s.putLane n (boundLane n f)) :=
      .putLane (keeps_boundLane _ n hf) (by simp [ho, boundLane])
    unfold State.bindFresh State.wake
    split
    · exact h
    · exact h.trans (.of_tables rfl rfl rfl rfl rfl rfl)
  · next ho =>
    exact ((KeepsLaws.putLane (Lane.keeps_rebound ho hf) Iff.rfl).trans (.of_calls (.handLevel _ _ _ _))).trans
      (.of_calls (.offerChangedClass _ _ _))

theorem keeps_bindLane : KeepsLaws s (bindLane p s).state := by
  unfold bindLane
  split
  · refine keeps_unlessSaving (keeps_withLane fun n => keeps_unlessCapture fun _ => ?_)
    split
    · next f hf => exact .bind s n (bindFields_marks hf)
    · exact .refl s
  · exact .refl s

theorem keeps_unbindLane : KeepsLaws s (unbindLane p s).state := by
  unfold unbindLane
  split
  · exact keeps_unlessSaving (keeps_withLane fun n => keeps_unlessOff fun _ => keeps_unlessCapture fun hn =>
      keeps_require fun hh => .unbind hn (Option.isNone_iff_eq_none.mp hh))
  · exact .refl s

theorem keeps_setLaneWeighing : KeepsLaws s (setLaneWeighing p s).state := by
  unfold setLaneWeighing
  split
  · exact keeps_unlessSaving (keeps_withLane fun n => keeps_unlessOff fun hn => keeps_unlessCapture fun _ =>
      .putLane (Lane.keeps_reweighed hn _) Iff.rfl)
  · exact .refl s

theorem keeps_suspendLane : KeepsLaws s (suspendLane p s).state := by
  unfold suspendLane
  split
  · exact keeps_unlessSaving (keeps_withLane fun n => keeps_unlessOff fun hn => keeps_unlessCapture fun _ =>
      keeps_require fun _ => keeps_accept (.suspend hn) _)
  · exact .refl s

theorem keeps_resumeLane : KeepsLaws s (resumeLane p s).state := by
  unfold resumeLane
  split
  · exact keeps_unlessSaving (keeps_withLane fun n => keeps_unlessOff fun hn => keeps_unlessCapture fun _ =>
      keeps_require fun _ => (KeepsLaws.putLane (Lane.keeps_resumed hn) Iff.rfl).trans (.of_calls (.sweep _ _)))
  · exact .refl s

theorem keeps_tryCapture {n : LaneId} (hn : (s.lane n).state ≠ .capture) (kind : CaptureKind) (mass : Nat) :
    KeepsLaws s (s.tryCapture n kind mass).state := by
  unfold State.tryCapture
  split
  · next i hi => exact .beginCapture (State.freeCapture_some hi).1 hn kind mass
  · exact .refl s

theorem keeps_beginZero : KeepsLaws s (beginZero p s).state := by
  unfold beginZero
  split
  · exact keeps_withLane fun n => keeps_unlessOff fun _ => keeps_unlessCapture fun hn => keeps_require fun _ =>
      keeps_tryCapture s hn _ _
  · exact .refl s

theorem keeps_beginSpan : KeepsLaws s (beginSpan p s).state := by
  unfold beginSpan
  split
  · exact keeps_withLane fun n => keeps_unlessOff fun _ => keeps_unlessCapture fun hn => keeps_require fun _ =>
      keeps_require fun _ => keeps_require fun _ => keeps_tryCapture s hn _ _
  · exact .refl s

theorem keeps_cancelCapture : KeepsLaws s (cancelCapture p s).state := by
  unfold cancelCapture
  split
  · refine keeps_withLane fun n => keeps_unlessOff fun _ => ?_
    split
    · next i hi =>
      obtain ⟨c, hc, rfl⟩ := State.captureSlot_some hi
      rw [hc]
      exact .endCapture hc .cancelled
    · exact .refl s
  · exact .refl s

theorem keeps_setCalibration : KeepsLaws s (setCalibration p s).state := by
  unfold setCalibration
  split
  · refine keeps_unlessSaving (keeps_withLane fun n => keeps_unlessOff fun hn => keeps_unlessCapture fun _ =>
      keeps_require fun _ => keeps_accept ?_ _)
    have h := fun zero gain => KeepsLaws.putLane (Lane.keeps_calibrated hn zero gain) Iff.rfl
    unfold State.calibrate
    dsimp only
    split
    · exact (h _ _).trans (.of_calls (.clearSource _ _ _))
    · exact h _ _
  · exact .refl s

/-! ### The other requests keep the laws -/

theorem keeps_identify : KeepsLaws s (identify p s).state := by
  unfold identify; split <;> exact .refl s

theorem keeps_getStatus : KeepsLaws s (getStatus p s).state := by
  unfold getStatus
  split
  · exact .of_tables rfl rfl rfl rfl rfl rfl
  · exact .refl s

theorem keeps_restartRequest (broadcast : Bool) : KeepsLaws s (restartRequest broadcast p s).state := by
  unfold restartRequest
  split
  · refine keeps_unlessSaving (keeps_accept ?_ _)
    split
    · exact .restart s
    · exact .of_tables rfl rfl rfl rfl rfl rfl
  · exact .refl s

theorem CallsKept.offerFaultClass (k : ClassId) : CallsKept s (s.offerFaultClass k) := by
  unfold State.offerFaultClass
  generalize hv : mapTable s.calls _ = v
  refine .ofCalls s v fun i a ha => ?_
  rw [← hv, mapTable_get] at ha
  split at ha
  · next c hc =>
    split at ha
    · cases ha
      exact ⟨c, hc, rfl, id⟩
    · exact ⟨a, ha, rfl, id⟩
  · exact ⟨a, ha, rfl, id⟩

theorem keeps_setDevice (broadcast : Bool) : KeepsLaws s (setDevice broadcast p s).state := by
  unfold setDevice
  split
  · refine keeps_unlessSaving ?_
    split
    · next d _ =>
      refine keeps_accept ?_ _
      have h : KeepsLaws s (if d.faultClass = s.device.faultClass then s else s.offerFaultClass d.faultClass) := by
        split
        · exact .refl s
        · exact .of_calls (.offerFaultClass s _)
      unfold State.takeDevice
      dsimp only
      generalize (if d.faultClass = s.device.faultClass then s else s.offerFaultClass d.faultClass) = t at h ⊢
      split <;> exact h.trans (.of_tables rfl rfl rfl rfl rfl rfl)
    · exact .refl s
  · exact .refl s

theorem KeepsLaws.beginSave : KeepsLaws s s.beginSave := by
  refine .of_store rfl rfl rfl rfl rfl fun i h => ?_
  rcases h with h | h
  · exact .inl (.inl h)
  · exact .inr (Option.some.inj h).symm

theorem keeps_saveSettings : KeepsLaws s (saveSettings p s).state := by
  unfold saveSettings
  split
  · exact keeps_unlessSaving (keeps_accept (.beginSave s) _)
  · exact .refl s

theorem keeps_readMoves : KeepsLaws s (readMoves p s).state := by
  unfold readMoves; split <;> exact .refl s

theorem keeps_removeMoves : KeepsLaws s (removeMoves p s).state := by
  unfold removeMoves
  split
  · exact .removeHead s _
  · exact .refl s

theorem keeps_clearJournal : KeepsLaws s (clearJournal p s).state := by
  unfold clearJournal
  split
  · exact .clearJournal s
  · exact .refl s

theorem keeps_setWatch : KeepsLaws s (setWatch p s).state := by
  unfold setWatch
  split
  · refine keeps_unlessSaving ?_
    split
    · exact .of_tables rfl rfl rfl rfl rfl rfl
    · exact .refl s
  · exact .refl s

theorem keeps_getWatch : KeepsLaws s (getWatch p s).state := by
  unfold getWatch
  split
  · split <;> exact .refl s
  · exact .refl s

theorem keeps_clearWatchHits : KeepsLaws s (clearWatchHits p s).state := by
  unfold clearWatchHits
  split
  · exact .of_tables rfl rfl rfl rfl rfl rfl
  · exact .refl s

theorem keeps_nextCall : KeepsLaws s (nextCall p s).state := by
  unfold nextCall; split <;> exact .refl s

theorem keeps_listCalls : KeepsLaws s (listCalls p s).state := by
  unfold listCalls
  split
  · split <;> exact .refl s
  · exact .refl s

theorem keeps_takeCall : KeepsLaws s (takeCall p s).state := by
  unfold takeCall
  split
  · exact keeps_withCall fun i c hc => keeps_require fun _ => .of_calls (.putCall hc rfl fun h => by cases h)
  · exact .refl s

/-- R144: CLOSE_CALL brings no call of a suspended lane back to RAISED. -/
theorem State.returns_suspended {s : State} {c : Call} (h : s.returns c = true) : (s.lane c.lane).binding.suspended = false := by
  simp only [State.returns, Bool.and_eq_true, Bool.not_eq_true'] at h
  exact h.1.1

theorem keeps_closeCall : KeepsLaws s (closeCall p s).state := by
  unfold closeCall
  split
  · refine keeps_withCall fun i c hc => keeps_require fun _ => ?_
    unfold State.close
    split
    · next hr =>
      have h : CallsKept s (s.putCall i (s.returnedCall c)) :=
        .putCall hc rfl fun _ => .inr (State.returns_suspended hr)
      exact keeps_accept (.of_calls (h.trans (.noteNewCall _ c.cls))) _
    · exact .of_calls ((CallsKept.freeEntry s i).trans (.place _))
  · exact .refl s

theorem keeps_clearCallsRequest : KeepsLaws s (clearCallsRequest p s).state := by
  unfold clearCallsRequest
  split
  · exact .of_calls (.clearCalls s)
  · exact .refl s

theorem KeepsLaws.writeClass (k : ClassId) (r : ClassRecord) : KeepsLaws s (s.writeClass k r) := by
  unfold State.writeClass
  dsimp only
  split <;> exact .of_tables rfl rfl rfl rfl rfl rfl

theorem CallsKept.reloadClass (k : ClassId) : CallsKept s (s.reloadClass k) := by
  unfold State.reloadClass
  generalize hv : mapTable s.calls _ = v
  refine .ofCalls s v fun i a ha => ?_
  rw [← hv, mapTable_get] at ha
  split at ha
  · next c hc =>
    split at ha
    · cases ha
      exact ⟨c, hc, rfl, id⟩
    · exact ⟨a, ha, rfl, id⟩
  · exact ⟨a, ha, rfl, id⟩

theorem keeps_setClass : KeepsLaws s (setClass p s).state := by
  unfold setClass
  split
  · refine keeps_unlessSaving ?_
    split
    · refine keeps_accept ?_ _
      split
      · exact (KeepsLaws.writeClass s _ _).trans (.of_calls (.reloadClass _ _))
      · exact .writeClass s _ _
    · exact .refl s
  · exact .refl s

theorem keeps_getClass : KeepsLaws s (getClass p s).state := by
  unfold getClass
  split
  · split <;> exact .refl s
  · exact .refl s

theorem keeps_setBay : KeepsLaws s (setBay p s).state := by
  unfold setBay
  split
  · refine keeps_unlessSaving (keeps_withBay fun i => ?_)
    split
    · exact .putBay s i _
    · exact .refl s
  · exact .refl s

theorem keeps_getBay : KeepsLaws s (getBay p s).state := by
  unfold getBay
  split
  · exact keeps_withBay fun i => .refl s
  · exact .refl s

theorem keeps_openWindow : KeepsLaws s (openWindow p s).state := by
  unfold openWindow
  split
  · exact keeps_withBay fun i => .openBayWindow s i _
  · exact keeps_withBay fun i => .openBayWindow s i _
  · exact .refl s

theorem keeps_closeWindow : KeepsLaws s (closeWindow p s).state := by
  unfold closeWindow
  split
  · refine keeps_withBay fun i => ?_
    split
    · exact .closeBayWindow s i
    · exact .refl s
  · exact .refl s

theorem keeps_setLamp : KeepsLaws s (setLamp p s).state := by
  unfold setLamp
  split
  · refine keeps_withBay fun i => ?_
    split
    · exact .putBay s i _
    · split
      · exact .putBay s i _
      · exact .refl s
  · exact .refl s

theorem keeps_setPattern : KeepsLaws s (setPattern p s).state := by
  unfold setPattern
  split
  · refine keeps_unlessSaving ?_
    split
    · exact .of_tables rfl rfl rfl rfl rfl rfl
    · exact .refl s
  · exact .refl s
end

/-! ### The supply, the pins, the line and the store keep the laws (R186, R197, R198) -/

/-- An outcome that is a next state in which the laws are kept. -/
def KeepsOut (s : State) (o : Out) : Prop :=
  ∀ t, o = .next t → KeepsLaws s t

theorem keepsOut_next {s t : State} (h : KeepsLaws s t) : KeepsOut s (.next t) := by
  intro u e
  cases e
  exact h

/-- A save cut off drops both images; otherwise they stand. -/
theorem Store.cutOff_images {st : Store} {i : Image} (h : st.cutOff.image = some i ∨ st.cutOff.copy = some i) :
    st.image = some i ∨ st.copy = some i := by
  unfold Store.cutOff at h
  split at h
  · simp at h
  · exact h

theorem Store.saved_images {st : Store} {agrees : Bool} {i : Image}
    (h : (st.saved agrees).image = some i ∨ (st.saved agrees).copy = some i) : st.image = some i ∨ st.copy = some i := by
  unfold Store.saved at h
  split at h
  · simp at h; exact .inr h
  · simp at h

theorem KeepsLaws.holdInRestart (s : State) : KeepsLaws s s.holdInRestart :=
  .of_store rfl rfl rfl rfl rfl fun _ h => .inl (Store.cutOff_images h)

theorem keeps_execPowerOn (straps : BitVec 5) (s : State) : KeepsOut s (execPowerOn straps s) := by
  have h : KeepsLaws s { s with power := { s.power with supplyUp := true, straps := straps } } :=
    .of_tables rfl rfl rfl rfl rfl rfl
  unfold execPowerOn
  dsimp only
  split
  · exact keepsOut_next (.refl s)
  · split
    · exact keepsOut_next h
    · exact keepsOut_next (h.trans (.restart _))

theorem keeps_execResetNLow (s : State) : KeepsOut s (execResetNLow s) := by
  unfold execResetNLow
  split
  · exact keepsOut_next (.refl s)
  · exact keepsOut_next ((KeepsLaws.holdInRestart s).trans (.of_tables rfl rfl rfl rfl rfl rfl))

theorem keeps_execResetNRelease (straps : BitVec 5) (s : State) : KeepsOut s (execResetNRelease straps s) := by
  have h : KeepsLaws s { s with power := { s.power with resetLow := false, straps := straps } } :=
    .of_tables rfl rfl rfl rfl rfl rfl
  unfold execResetNRelease
  dsimp only
  split
  · split
    · exact keepsOut_next (h.trans (.restart _))
    · exact keepsOut_next h
  · exact keepsOut_next (.refl s)

theorem keeps_execPowerLoss (s : State) : KeepsOut s (execPowerLoss s) := by
  unfold execPowerLoss
  split
  · exact keepsOut_next ((KeepsLaws.holdInRestart s).trans (.of_tables rfl rfl rfl rfl rfl rfl))
  · exact keepsOut_next (.refl s)

theorem KeepsLaws.setReceiver (s : State) (r : Receiver) : KeepsLaws s (s.setReceiver r) :=
  .of_tables rfl rfl rfl rfl rfl rfl

theorem keeps_execLineIdle (s : State) : KeepsOut s (execLineIdle s) := by
  unfold execLineIdle
  split
  · exact keepsOut_next (.setReceiver s _)
  · exact keepsOut_next (.refl s)

theorem keeps_execFrameAbandoned (chars : List Byte) (s : State) : KeepsOut s (execFrameAbandoned chars s) := by
  unfold execFrameAbandoned
  split
  · exact keepsOut_next (.setReceiver s _)
  · exact keepsOut_next (.refl s)

theorem keeps_execFrameDiscarded (chars : List Byte) (s : State) : KeepsOut s (execFrameDiscarded chars s) := by
  unfold execFrameDiscarded
  split
  · exact keepsOut_next (.setReceiver s _)
  · exact keepsOut_next (.refl s)

theorem keeps_execUnknownKindRequest (h : Header) (kind : Byte) (p : List Byte) (s : State) :
    KeepsOut s (execUnknownKindRequest h kind p s) := by
  unfold execUnknownKindRequest
  split
  · exact keepsOut_next (.serve (fun s => .refl s) _ _ _ _ s)
  · split
    · exact keepsOut_next (.setReceiver s _)
    · exact keepsOut_next (.refl s)

theorem keeps_execReplyComplete (s : State) : KeepsOut s (execReplyComplete s) := by
  unfold execReplyComplete
  split
  · split
    · exact keepsOut_next (.restart s)
    · exact keepsOut_next (.of_tables rfl rfl rfl rfl rfl rfl)
  · exact keepsOut_next (.refl s)

theorem keeps_execSaveComplete (agrees : Bool) (s : State) : KeepsOut s (execSaveComplete agrees s) := by
  unfold execSaveComplete
  split
  · exact keepsOut_next (.of_store rfl rfl rfl rfl rfl fun _ h => .inl (Store.saved_images h))
  · exact keepsOut_next (.refl s)

theorem KeepsLaws.tickIf (due : Bool) (t : TickInput) (s : State) : KeepsLaws s (tickIf due t s) := by
  unfold Machine.tickIf
  split
  · exact .ticked s t
  · exact .refl s

theorem KeepsLaws.convertIf (due : Bool) (rd : Reading) (s : State) : KeepsLaws s (convertIf due rd s) := by
  unfold Machine.convertIf
  split
  · exact .converted s rd
  · exact .refl s

/-- Every command keeps the laws of the lanes. -/
theorem keeps_exec (c : Instr) (s : State) : KeepsOut s (exec c s) := by
  have request : ∀ {kind ro h p} {act : State → Served}, (∀ s, KeepsLaws s (act s).state) →
      KeepsOut s (.next (serve kind ro h p act s)) := fun hact => keepsOut_next (.serve hact _ _ _ _ s)
  have tick : ∀ due t, KeepsOut s (.next (tickIf due t s)) := fun due t => keepsOut_next (.tickIf due t s)
  have convert : ∀ due rd, KeepsOut s (.next (convertIf due rd s)) := fun due rd => keepsOut_next (.convertIf due rd s)
  cases c with
  | powerOn straps => exact keeps_execPowerOn straps s
  | resetNLow => exact keeps_execResetNLow s
  | resetNRelease straps => exact keeps_execResetNRelease straps s
  | lineIdle => exact keeps_execLineIdle s
  | frameAbandoned chars => exact keeps_execFrameAbandoned chars s
  | frameDiscarded chars => exact keeps_execFrameDiscarded chars s
  | unknownKindRequest h kind p => exact keeps_execUnknownKindRequest h kind p s
  | replyComplete => exact keeps_execReplyComplete s
  | identify h p => exact request (keeps_identify p)
  | getStatus h p => exact request (keeps_getStatus p)
  | restart h p => exact request fun t => keeps_restartRequest p t _
  | setDevice h p => exact request fun t => keeps_setDevice p t _
  | saveSettings h p => exact request (keeps_saveSettings p)
  | saveComplete agrees => exact keeps_execSaveComplete agrees s
  | laneSummary h p => exact request (keeps_laneSummary p)
  | getLane h p => exact request (keeps_getLane p)
  | bindLane h p => exact request (keeps_bindLane p)
  | unbindLane h p => exact request (keeps_unbindLane p)
  | setLaneWeighing h p => exact request (keeps_setLaneWeighing p)
  | suspendLane h p => exact request (keeps_suspendLane p)
  | resumeLane h p => exact request (keeps_resumeLane p)
  | beginZero h p => exact request (keeps_beginZero p)
  | beginSpan h p => exact request (keeps_beginSpan p)
  | cancelCapture h p => exact request (keeps_cancelCapture p)
  | setCalibration h p => exact request (keeps_setCalibration p)
  | readMoves h p => exact request (keeps_readMoves p)
  | removeMoves h p => exact request (keeps_removeMoves p)
  | clearJournal h p => exact request (keeps_clearJournal p)
  | setWatch h p => exact request (keeps_setWatch p)
  | getWatch h p => exact request (keeps_getWatch p)
  | clearWatchHits h p => exact request (keeps_clearWatchHits p)
  | nextCall h p => exact request (keeps_nextCall p)
  | listCalls h p => exact request (keeps_listCalls p)
  | takeCall h p => exact request (keeps_takeCall p)
  | closeCall h p => exact request (keeps_closeCall p)
  | clearCalls h p => exact request (keeps_clearCallsRequest p)
  | setClass h p => exact request (keeps_setClass p)
  | getClass h p => exact request (keeps_getClass p)
  | setBay h p => exact request (keeps_setBay p)
  | getBay h p => exact request (keeps_getBay p)
  | openWindow h p => exact request (keeps_openWindow p)
  | closeWindow h p => exact request (keeps_closeWindow p)
  | setLamp h p => exact request (keeps_setLamp p)
  | setPattern h p => exact request (keeps_setPattern p)
  | tick t => exact tick true t
  | captureTimeout slot t => exact tick _ t
  | renotifyExpiry slot t => exact tick _ t
  | serviceExpiry slot t => exact tick _ t
  | windowExpiry bay t => exact tick _ t
  | overrideExpiry bay t => exact tick _ t
  | keyPress bay t => exact tick _ t
  | longPress bay t => exact tick _ t
  | keyRelease bay t => exact tick _ t
  | conversion rd => exact convert true rd
  | faultEntry rd => exact convert _ rd
  | faultRecovery rd => exact convert _ rd
  | plateau rd => exact convert _ rd
  | captureComplete rd => exact convert _ rd
  | powerLoss => exact keeps_execPowerLoss s

/-- Every step keeps the laws of the lanes: on an empty queue nothing happens, and otherwise the queue's rest is no law's
business. -/
theorem keeps_step {s t : State} (h : step s = .next t) : KeepsLaws s t := by
  unfold step at h
  split at h
  · cases h
    exact .refl s
  · next c rest _ =>
    have hq : KeepsLaws s { s with pending := rest } := .of_tables rfl rfl rfl rfl rfl rfl
    exact hq.trans (keeps_exec c _ t h)

/-- Settles O57: every command keeps each of the three laws on its own; a record enters the hold slot of a bound lane only, so that
the law of the OFF lanes does not even need the journal's. -/
theorem stepsKeepTheLaneStanding : Obligations.StepsKeepTheLaneStanding :=
  fun _ _ h => ⟨(keeps_step h).quiet, fun _ => (keeps_step h).off, (keeps_step h).capture⟩

/-- Settles O58: every command keeps Z in its range, and the levels and the marks of the images together. -/
theorem stepsKeepZeroAndLevel : Obligations.StepsKeepZeroAndLevel :=
  fun _ _ h => ⟨(keeps_step h).zero, fun hl hi => (keeps_step h).level ⟨hl, hi⟩⟩

end Sys2Proof.Machine
end

section
/-! SUPPORT. Power-on and the release of RESET_N (O14). -/

namespace Sys2Proof.Machine

section
variable (s : State)

@[simp] theorem State.entry_restart (i : SlotId) : s.restart.entry i = CallEntry.fresh := by
  simp [State.restart, State.entry]

@[simp] theorem State.rule_restart (w : RuleId) : s.restart.rule w = { config := s.imageInForce.rules[w], hits := 0 } := by
  simp [State.restart, State.rule, State.imageInForce]

@[simp] theorem State.bay_restart (b : BayId) : s.restart.bay b = Bay.fresh s.imageInForce.bays[b] := by
  simp [State.restart, State.bay, State.imageInForce]

/-- R198: the unit address is the value of the straps plus 1. -/
theorem addressOf_toNat (straps : BitVec 5) : (addressOf straps).toNat = straps.toNat + 1 := by
  have h := straps.isLt
  have e : (1 : Byte).toNat = 1 := rfl
  rw [addressOf, BitVec.toNat_add, BitVec.toNat_setWidth, e]
  omega

/-- R32: a new round begins at the lowest bound lane, or the scanner is IDLE. -/
theorem State.scansFromLowest {t : State} (h : t.scan = t.newRound) : ScansFromLowest t := by
  unfold ScansFromLowest
  rw [h, State.newRound]
  cases hb : t.lowestBound with
  | none => simpa using find_finRange_none.mp hb
  | some n =>
    obtain ⟨h1, h2⟩ := find_finRange_some hb
    exact ⟨rfl, by simpa using h1, fun m hm => by simpa using h2 m hm⟩

/-- The beginning of a round looks at the lanes alone. -/
theorem State.newRound_congr {s t : State} (h : s.lanes = t.lanes) : s.newRound = t.newRound := by
  simp only [State.newRound, State.lowestBound, State.lane, h]

theorem State.scan_restart : s.restart.scan = s.restart.newRound := by
  unfold State.restart
  dsimp only
  refine State.newRound_congr ?_
  rfl

theorem bootedLane_bootLane (n : LaneId) (i : LaneImage) : BootedLane i (bootLane n (some i)) := by
  simp [BootedLane, bootLane]

theorem State.loadedFrom_restart : LoadedFrom s.store.image s.restart := by
  cases h : s.store.image with
  | none =>
    have e : s.imageInForce = Image.factory := by simp [State.imageInForce, h]
    refine ⟨by simp [State.restart, h], congrArg Image.device e, congrArg Image.classes e, congrArg Image.patterns e,
      fun w => ?_, fun b => ?_, fun n => ?_⟩
    · simp [e, Image.factory]
    · simp [e, Image.factory, Bay.fresh]
    · rw [State.lane_restart, e]
      simp [Image.factory, bootLane]
  | some i =>
    have e : s.imageInForce = i := by simp [State.imageInForce, h]
    refine ⟨by simp [State.restart, h], congrArg Image.device e, congrArg Image.classes e, congrArg Image.patterns e,
      fun w => ?_, fun b => ?_, fun n => ?_⟩
    · simp [e]
    · simp [e, Bay.fresh]
    · rw [State.lane_restart, e]
      cases hn : i.lanes[n] with
      | none => rfl
      | some l => exact bootedLane_bootLane n l

/-- R198: the restart sequence brings every block to what its chapter lays down. -/
theorem State.comesOutOfRestart_restart : ComesOutOfRestart s s.restart := by
  refine ⟨rfl, rfl, addressOf_toNat _, rfl, rfl, rfl, rfl, rfl, rfl, rfl, rfl, rfl, rfl, ?_, ?_, ?_, ?_, ?_, ?_, ?_⟩
  · exact fun n => ⟨s.held_restart n, s.marker_restart n⟩
  · exact s.capture_restart
  · exact s.entry_restart
  · exact fun w => by rw [s.rule_restart]
  · exact fun b => by rw [s.bay_restart]; exact ⟨rfl, rfl, rfl, rfl, rfl, rfl⟩
  · exact s.loadedFrom_restart
  · have h := s.scan_restart
    generalize s.restart = t at h ⊢
    exact State.scansFromLowest h
end

/-- Settles O14: what still holds the part decides whether the command is the restart sequence or the change of the pins alone. -/
theorem partComesOutOfRestart : Obligations.PartComesOutOfRestart := by
  intro s straps
  refine ⟨fun hu hr => ?_, fun hu hr => ?_, fun hu hr => ⟨?_, ?_⟩, fun hu => ?_, fun hr => ?_⟩
  · refine ⟨_, ?_, State.comesOutOfRestart_restart _⟩
    simp [exec, execPowerOn, hu, hr]
  · refine ⟨_, ?_, State.comesOutOfRestart_restart _⟩
    simp [exec, execResetNRelease, hu, hr]
  · simp [exec, execPowerOn, hu, hr]
  · simp [exec, execResetNRelease, hu, hr]
  · simp [exec, execPowerOn, hu]
  · simp [exec, execResetNRelease, hr]

end Sys2Proof.Machine
end

section
/-! SUPPORT. The checks of the lane requests and the lane reports (O16, O26). -/

namespace Sys2Proof.Machine

/-! ### Fields read back from their bytes (R191) -/

@[simp] theorem w8_toNat (b : Byte) : w8 b.toNat = b := by simp [w8]

theorem u16_w8 {n : Nat} (h : n < 65536) : u16 (w8 (n / 256)) (w8 n) = n := by
  simp only [u16, w8, BitVec.toNat_ofNat]
  omega

@[simp] theorem u32_w8 (v : BitVec 32) :
    u32 (w8 (v.toNat / 16777216)) (w8 (v.toNat / 65536)) (w8 (v.toNat / 256)) (w8 v.toNat) = v := by
  have h := v.isLt
  apply BitVec.eq_of_toNat_eq
  simp only [u32, w8, BitVec.toNat_ofNat]
  omega

@[simp] theorem s32_w8 (v : BitVec 32) :
    s32 (w8 (v.toNat / 16777216)) (w8 (v.toNat / 65536)) (w8 (v.toNat / 256)) (w8 v.toNat) = v.toInt := by
  rw [s32, u32_w8]

/-! ### The checks, passed and failed (R1, R8, R196) -/

section
variable {s : State} {n : LaneId} {k : Served}

theorem unlessSaving_idle (h : s.store.save ≠ .saving) : unlessSaving s k = k := by
  simp [unlessSaving, State.saving, h]

theorem withLane_some {b : Byte} (h : b.toNat = n.val) (k : LaneId → Served) : withLane s b k = k n := by
  rw [withLane, index_some.mpr h]

@[simp] theorem withLane_w8 (n : LaneId) (k : LaneId → Served) : withLane s (w8 n) k = k n := by
  rw [withLane, index_w8 n (by decide)]

theorem withLane_refused {b : Byte} (h : 47 < b.toNat) (k : LaneId → Served) : withLane s b k = s.refuse .badValue := by
  rw [withLane, index_ge h]

theorem unlessOff_off (h : (s.lane n).state = .off) : unlessOff s n k = s.refuse .laneOff := if_pos h

theorem unlessOff_bound (h : (s.lane n).state ≠ .off) : unlessOff s n k = k := if_neg h

theorem unlessCapture_capture (h : (s.lane n).state = .capture) : unlessCapture s n k = s.refuse .laneBusy := if_pos h

theorem unlessCapture_free (h : (s.lane n).state ≠ .capture) : unlessCapture s n k = k := if_neg h

theorem require_false {ok : Bool} (h : ok = false) (st : Status) : require s ok st k = s.refuse st := by
  rw [h]; rfl

theorem require_true {ok : Bool} (h : ok = true) (st : Status) : require s ok st k = k := by
  rw [h]; rfl
end

/-! ### Replies to a heard request (R189) -/

theorem reply_refuse (s : State) (st : Status) (h : Header) (kind : Nat) :
    ((atHunt s).refuse st).reply h kind = answered s s h kind st [] := rfl

theorem reply_accept {s t : State} (ht : t.link.unitAddress = s.link.unitAddress) (body : List Byte) (h : Header) (kind : Nat) :
    (t.accept body).reply h kind = answered s t h kind .ok body := by
  simp only [State.accept, Served.reply, answered, ht]

/-- A report changes nothing but the reply. -/
theorem reply_report (s : State) (body : List Byte) (h : Header) (kind : Nat) :
    ((atHunt s).accept body).reply h kind = answered s s h kind .ok body := rfl

/-! ### The reports (R18, R19) -/

theorem flatMap_toList_eq_finRange {α β : Type} {n : Nat} (v : Vector α n) (f : α → List β) :
    v.toList.flatMap f = (List.finRange n).flatMap fun i => f v[i] := by
  have h : v.toList = (List.finRange n).map fun i => v[i] := by
    apply List.ext_getElem <;> simp
  rw [h, List.flatMap_map]

/-- Settles O26: both reports read the lane table and change nothing. -/
theorem laneReportsShowTheRecords : Obligations.LaneReportsShowTheRecords := by
  intro s h hs
  refine ⟨?_, fun n => ?_⟩
  · change Host.Outcome.next (serve 16 true h [] (laneSummary []) s) = _
    rw [serve_mine hs (by simp)]
    exact congrArg (fun body => Host.Outcome.next (answered s s h 16 .ok body))
      (flatMap_toList_eq_finRange s.lanes laneStatusRecord)
  · change Host.Outcome.next (serve 17 true h [w8 n] (getLane [w8 n]) s) = _
    rw [serve_mine hs (by simp [Config.payloadMax]), getLane, withLane_w8, reply_report]
    simp [laneReport, weighingBytes]

/-! ### The checks of the lane requests in their order (R8, R9) -/

/-- The checks that follow the lane number in a lane request of the kind given, ahead of what the request does (R8). -/
def laneChecks (s : State) (n : LaneId) (kind : Nat) (k : Served) : Served :=
  match kind with
  | 18 => unlessCapture s n k
  | 19 => unlessOff s n <| unlessCapture s n <| require s (s.held n).isNone .laneBusy k
  | 20 => unlessOff s n <| unlessCapture s n k
  | 21 => unlessOff s n <| unlessCapture s n <| require s (!(s.lane n).binding.suspended) .wrongState k
  | 22 => unlessOff s n <| unlessCapture s n <| require s (s.lane n).binding.suspended .wrongState k
  | _ => k

section
variable {s : State} (hs : s.store.save ≠ .saving) (b : Byte)
include hs

theorem bindLane_checked {r : List Byte} (hr : r.length = 15) :
    ∃ k : LaneId → Served, bindLane (b :: r) s = withLane s b fun n => laneChecks s n 18 (k n) :=
  match r, hr with
  | [_, _, _, _, _, _, _, _, _, _, _, _, _, _, _], _ => ⟨_, unlessSaving_idle hs⟩

theorem unbindLane_checked :
    ∃ k : LaneId → Served, unbindLane [b] s = withLane s b fun n => laneChecks s n 19 (k n) :=
  ⟨fun n => (s.unbind n).accept [w8 n], unlessSaving_idle hs⟩

theorem setLaneWeighing_checked {r : List Byte} (hr : r.length = 13) :
    ∃ k : LaneId → Served, setLaneWeighing (b :: r) s = withLane s b fun n => laneChecks s n 20 (k n) :=
  match r, hr with
  | [_, _, _, _, _, _, _, _, _, _, _, _, _], _ => ⟨_, unlessSaving_idle hs⟩

theorem suspendLane_checked :
    ∃ k : LaneId → Served, suspendLane [b] s = withLane s b fun n => laneChecks s n 21 (k n) :=
  ⟨fun n => (s.suspend n).accept [w8 n], unlessSaving_idle hs⟩

theorem resumeLane_checked :
    ∃ k : LaneId → Served, resumeLane [b] s = withLane s b fun n => laneChecks s n 22 (k n) :=
  ⟨fun n => (s.resume n).accept [w8 n], unlessSaving_idle hs⟩

end

/-- A request that is heard acts in HUNT and is answered. -/
theorem next_serve {s : State} {h : Header} (hs : Hears s h) {p : List Byte} (hp : p.length ≤ 240) (kind : Nat) (ro : Bool)
    (act : State → Served) : (.next (serve kind ro h p act s) : Out) = .next ((act (atHunt s)).reply h kind) :=
  congrArg Host.Outcome.next (serve_mine hs hp kind ro act)

/-- R8: outside a save, a lane request of a right size names its lane first, and then goes through the checks of its kind. -/
theorem exec_laneRequest {s : State} {h : Header} (hs : Hears s h) (hsave : s.store.save ≠ .saving) {kind b : Byte}
    {r : List Byte} (hlen : (b :: r).length ∈ payloadSizes kind.toNat) (hk : kind.toNat ∈ [17, 18, 19, 20, 21, 22]) :
    ∃ k : LaneId → Served, exec (requestOf h kind (b :: r)) s =
      .next ((withLane (atHunt s) b fun n => laneChecks (atHunt s) n kind.toNat (k n)).reply h kind.toNat) := by
  have serves : ∀ {kind ro} {act : State → Served} {k : LaneId → Served}, (b :: r).length ≤ 240 →
      act (atHunt s) = (withLane (atHunt s) b fun n => laneChecks (atHunt s) n kind (k n)) →
      (.next (serve kind ro h (b :: r) act s) : Out) =
        .next ((withLane (atHunt s) b fun n => laneChecks (atHunt s) n kind (k n)).reply h kind) :=
    fun hp ha => (next_serve hs hp _ _ _).trans (by rw [ha])
  simp only [List.mem_cons, List.not_mem_nil, or_false] at hk
  rcases hk with hk | hk | hk | hk | hk | hk <;> rw [hk] at hlen ⊢ <;> simp [payloadSizes] at hlen <;>
    simp only [requestOf, hk]
  · subst hlen
    exact ⟨_, serves (ro := true) (by simp) rfl⟩
  · obtain ⟨k, e⟩ := bindLane_checked (s := atHunt s) hsave b hlen
    exact ⟨k, serves (ro := false) (by simp [hlen]) e⟩
  · subst hlen
    obtain ⟨k, e⟩ := unbindLane_checked (s := atHunt s) hsave b
    exact ⟨k, serves (ro := false) (by simp) e⟩
  · obtain ⟨k, e⟩ := setLaneWeighing_checked (s := atHunt s) hsave b hlen
    exact ⟨k, serves (ro := false) (by simp [hlen]) e⟩
  · subst hlen
    obtain ⟨k, e⟩ := suspendLane_checked (s := atHunt s) hsave b
    exact ⟨k, serves (ro := false) (by simp) e⟩
  · subst hlen
    obtain ⟨k, e⟩ := resumeLane_checked (s := atHunt s) hsave b
    exact ⟨k, serves (ro := false) (by simp) e⟩

section
variable {s : State} {n : LaneId} {kind : Nat} {k : Served}

theorem laneChecks_off (hk : kind ∈ [19, 20, 21, 22]) (h : (s.lane n).state = .off) :
    laneChecks s n kind k = s.refuse .laneOff := by
  simp only [List.mem_cons, List.not_mem_nil, or_false] at hk
  rcases hk with rfl | rfl | rfl | rfl <;> exact unlessOff_off h

theorem laneChecks_capture (hk : kind ∈ [18, 19, 20, 21, 22]) (h : (s.lane n).state = .capture) :
    laneChecks s n kind k = s.refuse .laneBusy := by
  have ho : (s.lane n).state ≠ .off := by simp [h]
  simp only [List.mem_cons, List.not_mem_nil, or_false] at hk
  rcases hk with rfl | rfl | rfl | rfl | rfl
  · exact unlessCapture_capture h
  all_goals exact (unlessOff_bound ho).trans (unlessCapture_capture h)

section
variable (ho : (s.lane n).state ≠ .off) (hc : (s.lane n).state ≠ .capture)
include ho hc

theorem laneChecks_held (h : s.held n ≠ none) : laneChecks s n 19 k = s.refuse .laneBusy :=
  (unlessOff_bound ho).trans ((unlessCapture_free hc).trans (require_false (by simpa [Option.isSome_iff_ne_none] using h) _))

theorem laneChecks_suspended (h : (s.lane n).binding.suspended = true) : laneChecks s n 21 k = s.refuse .wrongState :=
  (unlessOff_bound ho).trans ((unlessCapture_free hc).trans (require_false (by simp [h]) _))

theorem laneChecks_resumed (h : (s.lane n).binding.suspended = false) : laneChecks s n 22 k = s.refuse .wrongState :=
  (unlessOff_bound ho).trans ((unlessCapture_free hc).trans (require_false h _))
end
end

/-- R9: the values that BIND_LANE refuses. -/
theorem bindFields_none {item : BitVec 32} {u tol low clear : Nat} {lc ec bay : Byte}
    (h : u = 0 ∨ 60000 < u ∨ clear ≤ low ∨ 10000 < clear ∨ 7 < lc.toNat ∨ 7 < ec.toNat ∨ 5 < bay.toNat) :
    bindFields item u tol low clear lc ec bay = none := by
  unfold bindFields
  by_cases hl : 7 < lc.toNat
  · simp [index_ge (n := 8) hl]
  by_cases he : 7 < ec.toNat
  · simp [index_ge (n := 8) he]
  by_cases hb : 5 < bay.toNat
  · simp [index_ge (n := 6) hb]
  have hc : ¬(1 ≤ u ∧ u ≤ 60000 ∧ low < clear ∧ clear ≤ 10000) := by omega
  simp [hc]

/-- R9: the values that BIND_LANE takes, the tolerance clamped. -/
theorem bindFields_some {item : BitVec 32} {u tol low clear : Nat} {lc ec : ClassId} {bay : BayId} (h1 : 1 ≤ u)
    (h2 : u ≤ 60000) (h3 : low < clear) (h4 : clear ≤ 10000) :
    bindFields item u tol low clear (w8 lc) (w8 ec) (w8 bay) =
      some { item := item, unitMass := u, tolerance := max 10 (min 450 tol), lowMark := low, clearMark := clear, lowClass := lc,
             emptyClass := ec, bay := bay } := by
  simp [bindFields, index_w8 (n := 8), index_w8 (n := 6), h1, h2, h3, h4, clamp]

/-- Settles O16: each check in turn, the ones before it passed. -/
theorem laneRequestsAreCheckedInOrder : Obligations.LaneRequestsAreCheckedInOrder := by
  intro s h kind b r n hs hsave hlen
  have checked : kind.toNat ∈ [17, 18, 19, 20, 21, 22] → b.toNat = n.val → ∀ st,
      (∀ k, laneChecks (atHunt s) n kind.toNat k = (atHunt s).refuse st) →
      exec (requestOf h kind (b :: r)) s = refused s h kind.toNat st := by
    intro hk hb st hst
    obtain ⟨k, e⟩ := exec_laneRequest hs hsave hlen hk
    rw [e, withLane_some hb, hst, reply_refuse]
    rfl
  refine ⟨fun hk hb => ?_, fun hb => ⟨fun hk ho => ?_, fun hk hc => ?_, fun ho hc => ⟨fun hk hh => ?_, fun hk hh => ?_,
    fun hk hh => ?_⟩, fun hc => ?_⟩⟩
  · obtain ⟨k, e⟩ := exec_laneRequest hs hsave hlen hk
    rw [e, withLane_refused hb, reply_refuse]
    rfl
  · exact checked (List.mem_cons_of_mem _ (List.mem_cons_of_mem _ hk)) hb _ fun k => laneChecks_off hk ho
  · exact checked (List.mem_cons_of_mem _ hk) hb _ fun k => laneChecks_capture hk hc
  · have e : kind.toNat = 19 := congrArg BitVec.toNat hk
    exact checked (by simp [e]) hb _ fun k => by rw [e]; exact laneChecks_held (s := atHunt s) ho hc hh
  · have e : kind.toNat = 21 := congrArg BitVec.toNat hk
    exact checked (by simp [e]) hb _ fun k => by rw [e]; exact laneChecks_suspended (s := atHunt s) ho hc hh
  · have e : kind.toNat = 22 := congrArg BitVec.toNat hk
    exact checked (by simp [e]) hb _ fun k => by rw [e]; exact laneChecks_resumed (s := atHunt s) ho hc hh
  · intro i3 i2 i1 i0 u1 u0 t1 t0 l1 l0 c1 c0 lc ec bay hbad
    refine (next_serve hs (by simp) 18 false _).trans ?_
    rw [bindLane, unlessSaving_idle (s := atHunt s) hsave, withLane_some hb, unlessCapture_free (s := atHunt s) hc,
      bindFields_none hbad]
    rfl

end Sys2Proof.Machine
end

section
/-! SUPPORT. BIND_LANE on an OFF lane, and SET_LANE_WEIGHING (O17, O20). -/

namespace Sys2Proof.Machine

/-! ### BIND_LANE (R9 to R11, R30, R69) -/

/-- The values that BIND_LANE takes from a request, the tolerance clamped (R9). -/
def BindFields.taken (item : BitVec 32) (u tol low clear : Nat) (lc ec : ClassId) (bay : BayId) : BindFields :=
  { item := item, unitMass := u, tolerance := max 10 (min 450 tol), lowMark := low, clearMark := clear, lowClass := lc,
    emptyClass := ec, bay := bay }

/-- An accepted BIND_LANE. -/
theorem exec_bindLane {s : State} {h : Header} {n : LaneId} {item : BitVec 32} {u tol low clear : Nat} {lc ec : ClassId}
    {bay : BayId} (hs : Hears s h) (hsave : s.store.save ≠ .saving) (hc : (s.lane n).state ≠ .capture) (h1 : 1 ≤ u)
    (h2 : u ≤ 60000) (ht : tol < 65536) (h3 : low < clear) (h4 : clear ≤ 10000) :
    exec (.bindLane h (w8 n :: w32 item ++ w16 u ++ w16 tol ++ w16 low ++ w16 clear ++ [w8 lc, w8 ec, w8 bay])) s =
      .next (((atHunt s).bind n (.taken item u tol low clear lc ec bay)).reply h 18) := by
  refine (next_serve hs (by simp [w32, w16]) 18 false _).trans ?_
  simp only [w32, w16, List.cons_append, List.nil_append]
  rw [bindLane, unlessSaving_idle (s := atHunt s) hsave, withLane_w8, unlessCapture_free (s := atHunt s) hc, u32_w8,
    u16_w8 (by omega), u16_w8 ht, u16_w8 (by omega), u16_w8 (by omega), bindFields_some h1 h2 h3 h4]
  rfl

theorem State.wake_idle {s : State} {n : LaneId} (h : s.scan = none) :
    s.wake n = { s with scan := some { lane := n, second := false } } := by
  rw [State.wake, h]

theorem State.wake_scanning {s : State} {n : LaneId} {p : ScanPosition} (h : s.scan = some p) : s.wake n = s := by
  rw [State.wake, h]

/-- R10, R30: a lane bound from OFF is written, and the scanner starts at it unless it is SCANNING. -/
theorem bindFresh_eq (s : State) (n : LaneId) (f : BindFields) :
    s.bindFresh n f = { s with
      scan := match s.scan with
        | some p => some p
        | none => some { lane := n, second := false }
      lanes := s.lanes.set n.val (boundLane n f) n.isLt } := by
  cases hscan : s.scan with
  | none =>
    rw [State.bindFresh, State.wake_idle (s := s.putLane n _) hscan]
    rfl
  | some p =>
    rw [State.bindFresh, State.wake_scanning (s := s.putLane n _) hscan]
    exact congrArg (fun v => { s.putLane n (boundLane n f) with scan := v }) hscan

/-- Settles O17: the fresh lane is written, and an IDLE scanner starts at it. -/
theorem bindFromOffSetsUpTheLane : Obligations.BindFromOffSetsUpTheLane := by
  intro s h n item u tol low clear lc ec bay hs hsave ho h1 h2 ht h3 h4
  rw [exec_bindLane hs hsave (by simp [ho]) h1 h2 ht h3 h4]
  have hb : (atHunt s).bind n (.taken item u tol low clear lc ec bay) =
      ((atHunt s).bindFresh n (.taken item u tol low clear lc ec bay)).accept
        (bindEcho n (.taken item u tol low clear lc ec bay) ++ [1]) := by
    have hl : ((atHunt s).bindFresh n (.taken item u tol low clear lc ec bay)).lane n =
        boundLane n (.taken item u tol low clear lc ec bay) := by
      unfold State.bindFresh State.wake
      split
      · exact State.lane_putLane_self _ n _
      · exact State.lane_putLane_self (atHunt s) n _
    rw [State.bind, if_pos (by exact ho), hl]
    rfl
  have hu : ((atHunt s).bindFresh n (.taken item u tol low clear lc ec bay)).link.unitAddress = s.link.unitAddress := by
    unfold State.bindFresh State.wake
    split <;> rfl
  rw [hb, reply_accept hu]
  have he : bindEcho n (.taken item u tol low clear lc ec bay) ++ [1] =
      w8 n :: w32 item ++ w16 u ++ w16 (max 10 (min 450 tol)) ++ w16 low ++ w16 clear ++ [w8 lc, w8 ec, w8 bay, 1] := by
    simp [bindEcho, BindFields.taken]
  rw [he]
  rw [bindFresh_eq]
  rfl

/-! ### SET_LANE_WEIGHING (R13 to R15) -/

theorem clampSigned_eq (lo hi : Nat) (x : Int) : clampSigned lo hi x = (max (lo : Int) (min hi x)).toNat := by
  simp only [clampSigned, clamp]
  omega

/-- R13: the ranges of the weighing settings. -/
theorem weighingFields_eq (k : Byte) (jump band : Int) (settle step : Byte) (limit : Nat) :
    weighingFields k jump band settle step limit =
      { shift := min 6 k.toNat, jump := (max 1 (min 8388607 jump)).toNat, band := (max 1 (min 1000000 band)).toNat,
        settle := max 2 (min 32 settle.toNat), trackStep := step.toNat, trackLimit := limit } := by
  simp [weighingFields, clampSigned_eq, clamp]

/-- R14: Z is clamped into Z0 plus or minus the track limit. -/
theorem clampZero_eq (z0 z : Int) (limit : Nat) :
    clampZero z0 z limit = if z < z0 - limit then z0 - limit else if z0 + limit < z then z0 + limit else z := by
  simp only [clampZero]
  split
  · omega
  · split <;> omega

/-- Settles O20: the settings by their ranges, Z by its clamp. -/
theorem setLaneWeighingClamps : Obligations.SetLaneWeighingClamps := by
  intro s h n k settle step jump band limit hs hsave ho hc hl
  refine (next_serve hs (by simp [w32, w16]) 20 false _).trans ?_
  simp only [w32, w16, List.cons_append, List.nil_append]
  rw [setLaneWeighing, unlessSaving_idle (s := atHunt s) hsave, withLane_w8, unlessOff_bound (s := atHunt s) ho,
    unlessCapture_free (s := atHunt s) hc, s32_w8, s32_w8, u16_w8 hl, weighingFields_eq]
  refine congrArg Host.Outcome.next ((reply_accept (t := (atHunt s).putLane n _) rfl _ h 20).trans ?_)
  simp only [Lane.reweighed, clampZero_eq, weighingBytes, w8_toNat, w16, List.cons_append, List.nil_append]
  rfl

end Sys2Proof.Machine
end

section
/-! SUPPORT. UNBIND_LANE and SUSPEND_LANE: calls freed for a lane, then placement (O19, O21). -/

namespace Sys2Proof.Machine

/-! ### Calls freed for a lane, then placement (R135, R144, R147) -/

theorem State.putLane_lane (s : State) (n : LaneId) : s.putLane n (s.lane n) = s := by
  simp [State.putLane, State.lane]

/-- An occupied entry stands through placement. -/
theorem State.entry_place_of_some {s : State} {i : SlotId} {a : Call} (h : s.callAt i = some a) :
    s.place.entry i = s.entry i := by
  have hg := s.generation_place i
  have hc : (s.place.entry i).call = (s.entry i).call := (State.callAt_place_of_some h).trans h.symm
  cases e : s.place.entry i
  cases e' : s.entry i
  simp_all

theorem State.entry_freed (s : State) (n : LaneId) (p : Call → Bool) (i : SlotId) :
    (s.freed n p).entry i =
      if (s.callAt i).any p then { generation := (s.entry i).generation + 1, call := none } else s.entry i := by
  rw [State.freed, State.entry_freeWhere, State.callAt, State.entry_putMarker]
  cases (s.entry i).call <;> simp

section
variable {s u : State} {n : LaneId} {l : Lane} {p : Call → Bool}

theorem freedFor_freed : FreedFor s n l p ((s.putLane n l).freed n p) :=
  ⟨rfl, State.entry_freed _ n p⟩

variable (h : FreedFor s n l p u)
include h

theorem FreedFor.lane (m : LaneId) : u.lane m = (s.putLane n l).lane m := by rw [h.1]; rfl

theorem FreedFor.marker (m : LaneId) : u.marker m = if m = n then Markers.clear else s.marker m := by
  have e : u.marker m = ((s.putLane n l).putMarker n Markers.clear).marker m := by rw [h.1]; rfl
  rw [e, State.marker_putMarker, State.marker_putLane]

theorem FreedFor.has {m : LaneId} {c : Cause} : (u.marker m).has c = true ↔ (s.marker m).has c = true ∧ m ≠ n := by
  rw [h.marker]
  split <;> simp [*]

theorem FreedFor.newCall (m : LaneId) (c : Cause) (k : ClassId) : u.newCall m c k = s.newCall m c k := by rw [h.1]; rfl

/-- The calls of `u` are those that are not freed. -/
theorem FreedFor.callAt {i : SlotId} {a : Call} : u.callAt i = some a ↔ s.callAt i = some a ∧ p a = false := by
  have e : u.callAt i = if (s.callAt i).any p then none else s.callAt i := by
    rw [State.callAt, h.2 i]
    split <;> rfl
  rw [e]
  cases s.callAt i with
  | none => simp
  | some b =>
    by_cases hb : p b
    · simp only [Option.any_some, hb, if_true, reduceCtorEq, Option.some.injEq, false_iff, not_and]
      rintro rfl
      simp [hb]
    · simp only [Option.any_some, hb, if_false, Option.some.injEq, Bool.false_eq_true, iff_self_and]
      rintro rfl
      simpa using hb

theorem FreedFor.lane_place (m : LaneId) : u.place.lane m = (s.putLane n l).lane m :=
  (u.touched_place.lane m).trans (h.lane m)

theorem FreedFor.generation_place (i : SlotId) :
    (u.place.entry i).generation = (s.entry i).generation + if (s.callAt i).any p then 1 else 0 := by
  rw [State.generation_place, h.2 i]
  split <;> simp

/-- A call that is not freed stands. -/
theorem FreedFor.entry_place {i : SlotId} {a : Call} (ha : s.callAt i = some a) (hp : p a = false) :
    u.place.entry i = s.entry i := by
  rw [State.entry_place_of_some ((h.callAt).mpr ⟨ha, hp⟩), h.2 i]
  simp [ha, hp]

theorem FreedFor.marker_place : u.place.marker n = Markers.clear :=
  Markers.eq_clear fun _ => Bool.eq_false_iff.mpr fun hm => ((h.has).mp (State.has_place.mp hm).1).2 rfl

/-- Every call after placement stood before, or is placed from the marker of another lane. -/
theorem FreedFor.callAt_place {i : SlotId} {a : Call} (ha : u.place.callAt i = some a) :
    s.callAt i = some a ∧ p a = false ∨
      a.lane ≠ n ∧ (s.marker a.lane).has a.cause = true ∧ (u.place.marker a.lane).has a.cause = false ∧
        a = raisedCall s a.lane a.cause a.cls := by
  cases hu : u.callAt i with
  | some b =>
    rw [State.callAt_place_of_some hu, Option.some.injEq] at ha
    exact .inl ((h.callAt).mp (ha ▸ hu))
  | none =>
    obtain ⟨hm, hc, e⟩ := State.placed_marker hu ha
    obtain ⟨hm, hn⟩ := (h.has).mp hm
    exact .inr ⟨hn, hm, hc, e.trans (h.newCall _ _ _)⟩

/-- A marker stays only while no entry is free. -/
theorem FreedFor.full_of_marker {m : LaneId} {c : Cause} (hm : (u.place.marker m).has c = true) :
    (s.marker m).has c = true ∧ ∀ i, u.place.callAt i ≠ none :=
  ⟨((h.has).mp (State.has_place.mp hm).1).1, fun i hi => by simp [State.marker_place_of_free hi] at hm⟩

/-- The lane whose markers are cleared is out of R129 and R134; the others are as they were. -/
theorem FreedFor.placedFrom (hs : MarkerSourceLaw s) : PlacedFrom u u.place := by
  refine State.placedFrom_place fun m => ?_
  rw [h.marker, h.lane]
  by_cases e : m = n
  · simp [e, Markers.clear]
  · rw [if_neg e, State.lane_putLane_ne _ _ _ _ e]
    exact hs m

theorem FreedFor.lanesAndCallsOnly : LanesAndCallsOnly s u.place := by
  have hu : LanesAndCallsOnly s u := by rw [h.1]; rfl
  have hp := u.touched_place
  generalize u.place = t at hp ⊢
  rw [hp, hu]

end

/-! ### UNBIND_LANE and SUSPEND_LANE (R12, R16, R144, R147) -/

theorem State.exists_unbind_eq (s : State) (n : LaneId) :
    ∃ u, FreedFor s n (s.lane n) (fun a => a.lane == n) u ∧ s.unbind n = u.place.putLane n (Lane.off n) :=
  ⟨_, freedFor_freed, by rw [State.putLane_lane, State.unbind_eq]⟩

theorem State.exists_suspend_eq (s : State) (n : LaneId) :
    ∃ u, FreedFor s n { s.lane n with binding := { (s.lane n).binding with suspended := true } }
      (fun a => a.lane == n && a.state == .raised) u ∧ s.suspend n = u.place :=
  ⟨_, freedFor_freed, s.suspend_eq n⟩

theorem lanesAndCallsOnly_unbind (s : State) (n : LaneId) : LanesAndCallsOnly s (s.unbind n) := by
  obtain ⟨u, hu, e⟩ := s.exists_unbind_eq n
  have h := hu.lanesAndCallsOnly
  rw [e]
  generalize u.place = t at h ⊢
  rw [h]
  rfl

theorem lanesAndCallsOnly_suspend (s : State) (n : LaneId) : LanesAndCallsOnly s (s.suspend n) := by
  obtain ⟨u, hu, e⟩ := s.exists_suspend_eq n
  rw [e]
  exact hu.lanesAndCallsOnly

theorem unitAddress_of_lanesAndCalls {s t : State} (h : LanesAndCallsOnly (atHunt s) t) :
    t.link.unitAddress = s.link.unitAddress := by
  rw [h]
  rfl

/-- An accepted UNBIND_LANE. -/
theorem exec_unbindLane {s : State} {h : Header} {n : LaneId} (hs : Hears s h) (hsave : s.store.save ≠ .saving)
    (ho : (s.lane n).state ≠ .off) (hc : (s.lane n).state ≠ .capture) (hh : s.held n = none) :
    exec (.unbindLane h [w8 n]) s = .next (answered s ((atHunt s).unbind n) h 19 .ok [w8 n]) := by
  refine (next_serve hs (by simp) 19 false _).trans ?_
  rw [unbindLane, unlessSaving_idle (s := atHunt s) hsave, withLane_w8, unlessOff_bound (s := atHunt s) ho,
    unlessCapture_free (s := atHunt s) hc, require_true (Option.isNone_iff_eq_none.mpr (by exact hh)),
    reply_accept (unitAddress_of_lanesAndCalls (lanesAndCallsOnly_unbind _ n))]

/-- An accepted SUSPEND_LANE. -/
theorem exec_suspendLane {s : State} {h : Header} {n : LaneId} (hs : Hears s h) (hsave : s.store.save ≠ .saving)
    (ho : (s.lane n).state ≠ .off) (hc : (s.lane n).state ≠ .capture) (hp : (s.lane n).binding.suspended = false) :
    exec (.suspendLane h [w8 n]) s = .next (answered s ((atHunt s).suspend n) h 21 .ok [w8 n]) := by
  refine (next_serve hs (by simp) 21 false _).trans ?_
  rw [suspendLane, unlessSaving_idle (s := atHunt s) hsave, withLane_w8, unlessOff_bound (s := atHunt s) ho,
    unlessCapture_free (s := atHunt s) hc, require_true (Bool.not_eq_true' _ ▸ hp),
    reply_accept (unitAddress_of_lanesAndCalls (lanesAndCallsOnly_suspend _ n))]

/-- Settles O19: the calls of the lane are freed, placement fills the table, and the lane is OFF. -/
theorem unbindFreesTheLane : Obligations.UnbindFreesTheLane := by
  intro s h n hs hsave ho hc hh
  refine ⟨_, exec_unbindLane hs hsave ho hc hh, lanesAndCallsOnly_unbind _ n, ?_⟩
  obtain ⟨u, hu, e⟩ := (atHunt s).exists_unbind_eq n
  rw [e]
  simp only [State.marker_putLane, State.callAt_putLane, State.entry_putLane]
  refine ⟨State.lane_putLane_self _ n _, fun m hm => ?_, hu.marker_place, fun i a ha => ?_, fun i a ha hn => ?_,
    fun i => FreedFor.generation_place (s := atHunt s) hu i, fun i a ha => ?_, fun m c => hu.full_of_marker,
    u, hu, rfl, fun hm => FreedFor.placedFrom (s := atHunt s) hu hm⟩
  · rw [State.lane_putLane_ne _ _ _ _ hm, hu.lane_place, State.lane_putLane_ne _ _ _ _ hm]
    rfl
  · rcases hu.callAt_place ha with ⟨-, hp⟩ | ⟨hn, -⟩
    · simpa using hp
    · exact hn
  · exact hu.entry_place ha (by simpa using hn)
  · exact (hu.callAt_place ha).imp And.left And.right

/-- Settles O21: the flag, the RAISED calls freed, and placement. -/
theorem suspendFreesRaisedCalls : Obligations.SuspendFreesRaisedCalls := by
  intro s h n hs hsave ho hc hp
  refine ⟨_, exec_suspendLane hs hsave ho hc hp, lanesAndCallsOnly_suspend _ n, ?_⟩
  obtain ⟨u, hu, e⟩ := (atHunt s).exists_suspend_eq n
  rw [e]
  refine ⟨(hu.lane_place n).trans (State.lane_putLane_self _ n _),
    fun m hm => (hu.lane_place m).trans (State.lane_putLane_ne _ _ _ _ hm), hu.marker_place,
    fun i a ha hn => ?_, fun i a ha hn => ?_, fun i => FreedFor.generation_place (s := atHunt s) hu i, fun i a ha => ?_,
    fun m c => hu.full_of_marker, u, hu, rfl, fun hm => FreedFor.placedFrom (s := atHunt s) hu hm⟩
  · rcases hu.callAt_place ha with ⟨-, hr⟩ | ⟨hm, -⟩
    · simpa [hn] using hr
    · exact absurd hn hm
  · exact hu.entry_place ha (by simpa using hn)
  · exact (hu.callAt_place ha).imp And.left And.right

end Sys2Proof.Machine
end

section
/-! SUPPORT. RESUME_LANE and the sweep of one lane (O22). -/

namespace Sys2Proof.Machine

/-! ### Marking a list of needs (R134) -/

section
variable (s : State) (l : List Need)

theorem State.markAll_cons (x : Need) : s.markAll (x :: l) = (s.mark x.lane x.cause x.cls).markAll l := rfl

@[simp] theorem State.entry_markAll (i : SlotId) : (s.markAll l).entry i = s.entry i := by
  induction l generalizing s with
  | nil => rfl
  | cons x l ih => rw [State.markAll_cons, ih]; rfl

@[simp] theorem State.callAt_markAll (i : SlotId) : (s.markAll l).callAt i = s.callAt i := by
  rw [State.callAt, State.entry_markAll, State.callAt]

@[simp] theorem State.attention_markAll : (s.markAll l).attention = s.attention := by
  induction l generalizing s with
  | nil => rfl
  | cons x l ih => rw [State.markAll_cons, ih]; rfl

/-- Only the lanes of the needs are marked. -/
theorem State.marker_markAll_ne {m : LaneId} (h : ∀ x ∈ l, x.lane ≠ m) : (s.markAll l).marker m = s.marker m := by
  induction l generalizing s with
  | nil => rfl
  | cons x l ih =>
    rw [State.markAll_cons, ih _ fun y hy => h y (List.mem_cons_of_mem _ hy)]
    exact State.marker_putMarker_ne _ _ _ _ (h x List.mem_cons_self).symm

/-- Needs of other causes leave the WATCH marker. -/
theorem State.watch_markAll {m : LaneId} (h : ∀ x ∈ l, x.cause ≠ .watch) :
    ((s.markAll l).marker m).watch = (s.marker m).watch := by
  induction l generalizing s with
  | nil => rfl
  | cons x l ih =>
    rw [State.markAll_cons, ih _ fun y hy => h y (List.mem_cons_of_mem _ hy), State.mark, State.marker_putMarker]
    have hx := h x List.mem_cons_self
    split
    · next e => cases hc : x.cause <;> simp_all [Markers.mark]
    · rfl
end

/-! ### The sweep of one lane (R145) -/

theorem Lane.asserts_eq (l : Lane) (c : Cause) : l.asserts c = sourceAsserted l c := by
  cases c <;> rfl

/-- The needs of a lane that a sweep meets, in the placement order. -/
def State.swept (s : State) (n : LaneId) : List Need :=
  placementOrder (s.sweptNeeds n)

section
variable {s : State} {n : LaneId}

theorem State.swept_pairwise : (s.swept n).Pairwise Need.Before :=
  placementOrder_pairwise (s.sweptNeeds_pairwise n)

theorem State.mem_swept {x : Need} : x ∈ s.swept n ↔ x.lane = n ∧ s.unmet n x.cause = true ∧ x.cls = s.needClass n x.cause := by
  rw [State.swept, mem_placementOrder, State.mem_sweptNeeds]

theorem State.unmet_iff {c : Cause} : s.unmet n c = true ↔
    (s.lane n).raisable = true ∧ sourceAsserted (s.lane n) c = true ∧
      (∀ i a, s.callAt i = some a → ¬(a.lane = n ∧ a.cause = c)) ∧ (s.marker n).has c = false := by
  rw [← State.findCall_none]
  simp [State.unmet, Lane.asserts_eq, and_assoc]

/-- R126, R145: the first needs are raised in the free entries from the lowest on; the others are marked. -/
theorem State.sweep_one (s : State) (n : LaneId) : s.sweep [n] =
    (s.raiseAll (s.freeSlots.zip (s.swept n))).markAll ((s.swept n).drop s.freeSlots.length) := by
  rw [← State.foldl_need_eq, State.sweep, State.swept]
  simp

theorem State.generation_sweep (i : SlotId) : ((s.sweep [n]).entry i).generation = (s.entry i).generation := by
  rw [State.sweep_one, State.entry_markAll, State.generation_raiseAll]

/-- A need that is paired with an entry is raised there. -/
theorem State.callAt_sweep_of_mem {i : SlotId} {x : Need} (h : (i, x) ∈ s.freeSlots.zip (s.swept n)) :
    (s.sweep [n]).callAt i = some (s.newCall x.lane x.cause x.cls) := by
  rw [State.sweep_one, State.callAt_markAll,
    State.callAt_raiseAll_of_mem (nodup_fst_zip (s.freeSlots_pairwise.imp ne_of_lt)) h]

theorem State.callAt_sweep_of_unpaired {i : SlotId} (h : ∀ x, (i, x) ∉ s.freeSlots.zip (s.swept n)) :
    (s.sweep [n]).callAt i = s.callAt i := by
  rw [State.sweep_one, State.callAt_markAll, State.callAt_raiseAll_of_not_mem h]

/-- An occupied entry stands. -/
theorem State.callAt_sweep_of_some {i : SlotId} (h : s.callAt i ≠ none) : (s.sweep [n]).callAt i = s.callAt i :=
  State.callAt_sweep_of_unpaired fun _ hx => h (State.mem_freeSlots.mp (List.of_mem_zip hx).1)

/-- What a free entry holds after the sweep stands for a need paired with it. -/
theorem State.callAt_sweep {i : SlotId} {a : Call} (hs : s.callAt i = none) (h : (s.sweep [n]).callAt i = some a) :
    ∃ x, (i, x) ∈ s.freeSlots.zip (s.swept n) ∧ a = s.newCall x.lane x.cause x.cls := by
  by_contra hn
  push Not at hn
  rw [State.callAt_sweep_of_unpaired fun x hx => ?_, hs] at h
  · cases h
  · rw [State.callAt_sweep_of_mem hx, Option.some.injEq] at h
    exact hn x hx h.symm

theorem State.has_sweep {m : LaneId} {c : Cause} : ((s.sweep [n]).marker m).has c = true ↔
    (s.marker m).has c = true ∨ ∃ x ∈ (s.swept n).drop s.freeSlots.length, x.lane = m ∧ x.cause = c := by
  rw [State.sweep_one, State.has_markAll, State.marker_raiseAll]

theorem State.marker_sweep_ne {m : LaneId} (h : m ≠ n) : (s.sweep [n]).marker m = s.marker m := by
  rw [State.sweep_one, State.marker_markAll_ne, State.marker_raiseAll]
  intro x hx e
  exact h (e.symm.trans (State.mem_swept.mp (List.mem_of_mem_drop hx)).1)

theorem State.watch_sweep (m : LaneId) : ((s.sweep [n]).marker m).watch = (s.marker m).watch := by
  rw [State.sweep_one, State.watch_markAll, State.marker_raiseAll]
  intro x hx e
  obtain ⟨-, ha, -, -⟩ := State.unmet_iff.mp (e ▸ (State.mem_swept.mp (List.mem_of_mem_drop hx)).2.1)
  cases ha

/-- A need that is left over is marked only when every entry is occupied. -/
theorem State.full_of_left {x : Need} (hx : x ∈ (s.swept n).drop s.freeSlots.length) (i : SlotId) :
    (s.sweep [n]).callAt i ≠ none := by
  intro h
  have hi : s.callAt i = none := by
    by_contra hi
    exact hi ((State.callAt_sweep_of_some hi).symm.trans h)
  rw [drop_eq_nil_of_unpaired (State.mem_freeSlots.mpr hi) fun y hy => by
    rw [State.callAt_sweep_of_mem hy] at h
    cases h] at hx
  cases hx

/-- The needs left over are those asserted sources that no call stands for (R145). -/
theorem State.has_sweep_self (hr : (s.lane n).raisable = true) {c : Cause} : ((s.sweep [n]).marker n).has c = true ↔
    (s.marker n).has c = true ∨ (sourceAsserted (s.lane n) c = true ∧
      ∀ i a, (s.sweep [n]).callAt i = some a → ¬(a.lane = n ∧ a.cause = c)) := by
  rw [State.has_sweep]
  constructor
  · rintro (h | ⟨x, hx, -, rfl⟩)
    · exact .inl h
    · obtain ⟨hl, hu, hk⟩ := State.mem_swept.mp (List.mem_of_mem_drop hx)
      obtain ⟨-, ha, hc, -⟩ := State.unmet_iff.mp hu
      refine .inr ⟨ha, fun i a hi hn => ?_⟩
      cases hs : s.callAt i with
      | some b =>
        rw [State.callAt_sweep_of_some (by simp [hs])] at hi
        exact hc i a hi hn
      | none =>
        obtain ⟨y, hy, rfl⟩ := State.callAt_sweep hs hi
        have hb := zip_before_rest State.swept_pairwise hy hx
        obtain ⟨yl, -, yk⟩ := State.mem_swept.mp (List.of_mem_zip hy).2
        have e : y.cause = x.cause := hn.2
        rcases Need.before_iff.mp hb with hlt | ⟨-, hlt⟩
        · rw [yk, hk, e] at hlt
          exact lt_irrefl _ hlt
        · exact Need.not_ahead_of_key (yl.trans hl.symm) e hlt
  · rintro (h | ⟨ha, hc⟩)
    · exact .inl h
    by_cases hm : (s.marker n).has c = true
    · exact .inl hm
    have hu : s.unmet n c = true := State.unmet_iff.mpr ⟨hr, ha, fun i a hi =>
      hc i a ((State.callAt_sweep_of_some (by simp [hi])).trans hi), by simpa using hm⟩
    have hx : (⟨n, c, s.needClass n c⟩ : Need) ∈ s.swept n := State.mem_swept.mpr ⟨rfl, hu, rfl⟩
    rw [← List.take_append_drop s.freeSlots.length (s.swept n), List.mem_append] at hx
    rcases hx with hx | hx
    · obtain ⟨j, hj⟩ := exists_zip_of_mem_take hx
      exact absurd ⟨rfl, rfl⟩ (hc j _ (State.callAt_sweep_of_mem hj))
    · exact .inr ⟨_, hx, rfl, rfl⟩

theorem State.notice_sweep : (s.sweep [n]).attention.newCall = true ↔ s.attention.newCall = true ∨
    ∃ i a, s.callAt i = none ∧ (s.sweep [n]).callAt i = some a ∧ (s.cls a.cls).masked = false := by
  rw [State.sweep_one, State.attention_markAll, State.notice_raiseAll, ← State.sweep_one]
  refine or_congr_right ⟨?_, ?_⟩
  · rintro ⟨p, hp, hm⟩
    exact ⟨p.1, _, State.mem_freeSlots.mp (List.of_mem_zip hp).1, State.callAt_sweep_of_mem hp, hm⟩
  · rintro ⟨i, a, hs, ha, hm⟩
    obtain ⟨x, hx, rfl⟩ := State.callAt_sweep hs ha
    exact ⟨_, hx, hm⟩

/-- R145: a call that the sweep raises stands for an asserted source without a call or a marker; every lower free entry holds a
call for a need before it, and every need marked by the sweep comes after it. -/
theorem State.raised_sweep {i : SlotId} {a : Call} (hs : s.callAt i = none) (h : (s.sweep [n]).callAt i = some a) :
    a.lane = n ∧ sourceAsserted (s.lane n) a.cause = true ∧ (s.marker n).has a.cause = false ∧
      (∀ j b, s.callAt j = some b → ¬(b.lane = n ∧ b.cause = a.cause)) ∧ some a.cls = carriedClass s n a.cause ∧
      a = s.newCall n a.cause a.cls ∧
      (∀ j, j < i → s.callAt j = none → ∃ b, (s.sweep [n]).callAt j = some b ∧
        placedBefore b.lane b.cause b.cls n a.cause a.cls = true) ∧
      ∀ c k, ((s.sweep [n]).marker n).has c = true → (s.marker n).has c = false → carriedClass s n c = some k →
        placedBefore n a.cause a.cls n c k = true := by
  obtain ⟨x, hx, rfl⟩ := State.callAt_sweep hs h
  obtain ⟨rfl, hu, hk⟩ := State.mem_swept.mp (List.of_mem_zip hx).2
  obtain ⟨-, ha, hc, hm⟩ := State.unmet_iff.mp hu
  refine ⟨rfl, ha, hm, hc, ?_, rfl, fun j hj hfree => ?_, fun c k hset hclear hcarried => ?_⟩
  · exact (congrArg some hk).trans (State.carriedClass_of_asserted ha).symm
  · obtain ⟨y, hy, hyx⟩ := zip_before s.freeSlots_pairwise (fun _ _ => lt_asymm) State.swept_pairwise hx
      (State.mem_freeSlots.mpr hfree) hj
    exact ⟨_, State.callAt_sweep_of_mem hy, hyx⟩
  · rcases State.has_sweep.mp hset with hset | ⟨y, hy, yl, rfl⟩
    · simp [hset] at hclear
    · have yk := (State.mem_swept.mp (List.mem_of_mem_drop hy)).2.2
      have hb := zip_before_rest State.swept_pairwise hx hy
      rwa [Need.Before, yl, yk, State.needClass_of_carriedClass hcarried] at hb

/-- R145: a marker that the sweep sets finds every entry occupied. -/
theorem State.full_of_marked_sweep {c : Cause} (hset : ((s.sweep [n]).marker n).has c = true) (hclear : (s.marker n).has c = false)
    (i : SlotId) : (s.sweep [n]).callAt i ≠ none := by
  rcases State.has_sweep.mp hset with hset | ⟨x, hx, -⟩
  · simp [hset] at hclear
  · exact State.full_of_left hx i

end

/-! ### RESUME_LANE (R17, R145) -/

/-- A lane resumed, ahead of the sweep. -/
abbrev State.resumed (s : State) (n : LaneId) : State :=
  s.putLane n ((s.lane n).suspendWith false true)

theorem carriedClass_resumed (s : State) (n : LaneId) (c : Cause) : carriedClass (s.resumed n) n c = carriedClass s n c := by
  cases c
  · rw [carriedClass, State.lane_putLane_self]; rfl
  · rfl
  · rfl

theorem lanesAndCallsOnly_resume (s : State) (n : LaneId) : LanesAndCallsOnly s (s.resume n) := by
  have h := (s.resumed n).touched_sweep [n]
  unfold State.resume
  generalize (s.resumed n).sweep [n] = t at h ⊢
  rw [h]
  rfl

/-- An accepted RESUME_LANE. -/
theorem exec_resumeLane {s : State} {h : Header} {n : LaneId} (hs : Hears s h) (hsave : s.store.save ≠ .saving)
    (ho : (s.lane n).state ≠ .off) (hc : (s.lane n).state ≠ .capture) (hp : (s.lane n).binding.suspended = true) :
    exec (.resumeLane h [w8 n]) s = .next (answered s (((atHunt s).resumed n).sweep [n]) h 22 .ok [w8 n]) := by
  refine (next_serve hs (by simp) 22 false _).trans ?_
  rw [resumeLane, unlessSaving_idle (s := atHunt s) hsave, withLane_w8, unlessOff_bound (s := atHunt s) ho,
    unlessCapture_free (s := atHunt s) hc, require_true (s := atHunt s) (by exact hp),
    reply_accept (unitAddress_of_lanesAndCalls (lanesAndCallsOnly_resume _ n))]
  rfl

/-- Settles O22: the flags, then the sweep of the lane. -/
theorem resumeSweepsTheLane : Obligations.ResumeSweepsTheLane := by
  intro s h n hs hsave ho hc hp
  refine ⟨_, exec_resumeLane hs hsave ho hc hp, lanesAndCallsOnly_resume _ n, ?_⟩
  have hln : ((atHunt s).resumed n).lane n = ((atHunt s).lane n).suspendWith false true := State.lane_putLane_self _ n _
  have hlm : ∀ m, m ≠ n → ((atHunt s).resumed n).lane m = s.lane m := fun m hm => State.lane_putLane_ne _ _ _ _ hm
  have hk : ∀ c, carriedClass s n c = carriedClass ((atHunt s).resumed n) n c := fun c => (carriedClass_resumed _ n c).symm
  have hm : ∀ m, s.marker m = ((atHunt s).resumed n).marker m := fun _ => rfl
  have he : ∀ i, s.entry i = ((atHunt s).resumed n).entry i := fun _ => rfl
  have hi : ∀ i, s.callAt i = ((atHunt s).resumed n).callAt i := fun _ => rfl
  have hx : ∀ k, s.cls k = ((atHunt s).resumed n).cls k := fun _ => rfl
  have hn : s.attention = ((atHunt s).resumed n).attention := rfl
  have hw : raisedCall s = ((atHunt s).resumed n).newCall := rfl
  generalize (atHunt s).resumed n = u at *
  have hr : (u.lane n).raisable = true := by
    rw [hln]
    simpa [Lane.raisable, Lane.suspendWith] using ho
  have ha : ∀ c, sourceAsserted (s.lane n) c = sourceAsserted (u.lane n) c := fun c => by
    rw [hln]
    cases c <;> rfl
  have ht := u.touched_sweep [n]
  simp only [hk, he, hi, hx, hn, hw, ha]
  refine ⟨(ht.lane n).trans hln, fun m e => ⟨(ht.lane m).trans (hlm m e), ?_⟩,
    fun i => ⟨State.generation_sweep i, State.callAt_sweep_of_some⟩, ?_, fun i a => ?_, fun c => ?_, State.notice_sweep⟩
  · rw [hm, State.marker_sweep_ne e]
  · rw [hm, State.watch_sweep]
  · simp only [hm]
    exact State.raised_sweep
  · simp only [hm]
    exact ⟨State.has_sweep_self hr, State.full_of_marked_sweep⟩

end Sys2Proof.Machine
end

section
/-! SUPPORT. BIND_LANE on a bound lane (O18). -/

namespace Sys2Proof.Machine

/-! ### The class rule after an assertion (R127, R128) -/

section
variable {s : State} {n : LaneId} {c : Cause} {k : ClassId}

/-- A call written as it stands changes nothing. -/
theorem State.putCall_eq_self {i : SlotId} {a : Call} (h : s.callAt i = some a) : s.putCall i a = s := by
  have e : { s.entry i with call := some a } = s.entry i := by
    rw [← h]
    rfl
  rw [State.putCall, e]
  simp [State.putEntry, State.entry]

/-- A call rewritten with its lane and cause is found where it was. -/
theorem State.findCall_putCall {i : SlotId} {a b : Call} (h : s.callAt i = some a) (hl : b.lane = a.lane) (hc : b.cause = a.cause) :
    (s.putCall i b).findCall n c = s.findCall n c := by
  unfold State.findCall
  refine congrArg (fun p => (List.finRange 32).find? p) (funext fun j => ?_)
  by_cases e : j = i
  · subst e
    simp [State.isCallOf, h, hl, hc]
  · simp [State.isCallOf, e]

/-- An offer of a class that the call is already at least as urgent as changes nothing (R128). -/
theorem State.offerClass_eq_self (h : ∀ i a, s.findCall n c = some i → s.callAt i = some a → a.cls ≤ k) :
    s.offerClass n c k = s := by
  unfold State.offerClass
  split
  · next i hi =>
    split
    · next a ha =>
      have e : a.offered k = a := by rw [Call.offered, min_eq_left (h i a hi ha)]
      rw [e, State.putCall_eq_self ha]
    · rfl
  · rfl

theorem State.offerClass_none (h : s.findCall n c = none) : s.offerClass n c k = s :=
  State.offerClass_eq_self fun i a hi => by simp [h] at hi

theorem Call.asserted_cls (a : Call) (k : ClassId) : (a.asserted k).cls = min a.cls k := by
  cases h : a.state with
  | raised => simp [Call.asserted, h, Call.offered]
  | taken => by_cases hw : a.cause = .watch <;> simp [Call.asserted, h, hw, Call.offered]
  | satisfied => simp [Call.asserted, h, Call.offered]

/-- An assertion has offered its class: to offer it again changes nothing. -/
theorem State.offerClass_assertSource (s : State) (n : LaneId) (c : Cause) (k : ClassId) :
    (s.assertSource n c k).offerClass n c k = s.assertSource n c k := by
  cases hf : s.findCall n c with
  | some i =>
    obtain ⟨a, ha, -, -⟩ := State.findCall_some hf
    have e : s.assertSource n c k = s.putCall i (a.asserted k) := by simp only [State.assertSource, hf, ha]
    rw [e]
    refine State.offerClass_eq_self fun j b hj hb => ?_
    rw [State.findCall_putCall ha (a.asserted_lane k) (a.asserted_cause k), hf, Option.some.injEq] at hj
    rw [← hj, State.callAt_putCall_self, Option.some.injEq] at hb
    rw [← hb, Call.asserted_cls]
    exact min_le_right _ _
  | none =>
    have marked : (s.mark n c k).offerClass n c k = s.mark n c k := State.offerClass_none hf
    unfold State.assertSource State.need
    rw [hf]
    dsimp only
    split
    · exact marked
    · split
      · split
        · next i hi =>
          refine State.offerClass_eq_self fun j b hj hb => ?_
          obtain ⟨b', hb', hk⟩ := State.findCall_some hj
          rw [State.callAt_raiseAt] at hb hb'
          by_cases e : j = i
          · rw [if_pos e, Option.some.injEq] at hb
            rw [← hb]
            exact le_refl k
          · rw [if_neg e] at hb'
            exact absurd hk (State.findCall_none.mp hf j b' hb')
        · exact marked
      · exact State.offerClass_none hf

end

/-! ### BIND_LANE on a bound lane (R11, R69) -/

/-- R69: the level computed against the committed count; between the marks, and while NONE, it stays. -/
theorem Lane.relevel_eq {l : Lane} (h : LevelAgrees l) (f : BindFields) : l.relevel f =
    (if l.committed.level = .none ∨ l.binding.lowMark = f.lowMark ∧ l.binding.clearMark = f.clearMark then l.committed.level
      else if l.committed.count = 0 then .empty
      else if l.committed.count ≤ f.lowMark then .low
      else if f.clearMark ≤ l.committed.count then .ok
      else l.committed.level) := by
  unfold Lane.relevel
  by_cases hn : l.committed.level = .none
  · simp [hn]
  by_cases hm : l.binding.lowMark = f.lowMark ∧ l.binding.clearMark = f.clearMark
  · rw [if_neg hn, if_pos hm, if_pos (.inr hm)]
  rw [if_neg hn, if_neg hm, if_neg (not_or.mpr ⟨hn, hm⟩)]
  unfold levelOf
  by_cases h0 : l.committed.count = 0
  · simp only [h0, if_true]
  by_cases hl : l.committed.count ≤ f.lowMark
  · simp only [h0, hl, if_true, if_false]
  by_cases hc : f.clearMark ≤ l.committed.count
  · simp only [h0, hl, hc, Nat.not_lt.mpr hc, if_true, if_false]
  · simp only [h0, hl, hc, Nat.lt_of_not_le hc, if_true, if_false]
    cases e : l.committed.level with
    | none => exact absurd e hn
    | ok => rfl
    | low => rfl
    | empty => exact absurd ((h hn).1.mp e) h0

/-- R67, R69: of the level's changes only those between OK and LOW can happen here. -/
theorem Lane.relevel_cases {l : Lane} (h : LevelAgrees l) (f : BindFields) :
    l.relevel f = l.committed.level ∨ (l.relevel f = .ok ∧ l.committed.level = .low) ∨
      (l.relevel f = .low ∧ l.committed.level = .ok) := by
  have hz : l.committed.level = .ok ∨ l.committed.level = .low → l.committed.count ≠ 0 := fun hv e => by
    have := (h (by rcases hv with hv | hv <;> simp [hv])).1.mpr e
    simp [this] at hv
  rw [Lane.relevel_eq h]
  cases hl : l.committed.level with
  | none => simp
  | empty => simp [(h (by simp [hl])).1.mp hl]
  | ok =>
    rw [if_neg (hz (.inl hl))]
    split_ifs <;> simp
  | low =>
    rw [if_neg (hz (.inr hl))]
    split_ifs <;> simp

section
variable {s : State} {n : LaneId} {b : Binding}

theorem State.offerChangedClass_low (h : (s.lane n).committed.level = .low) : s.offerChangedClass n b =
    if b.lowClass = (s.lane n).binding.lowClass then s else s.offerClass n .restock (s.lane n).binding.lowClass := by
  simp only [State.offerChangedClass, h]

theorem State.offerChangedClass_empty (h : (s.lane n).committed.level = .empty) : s.offerChangedClass n b =
    if b.emptyClass = (s.lane n).binding.emptyClass then s else s.offerClass n .restock (s.lane n).binding.emptyClass := by
  simp only [State.offerChangedClass, h]

theorem State.offerChangedClass_none (h : (s.lane n).committed.level = .none) : s.offerChangedClass n b = s := by
  simp only [State.offerChangedClass, h]

theorem State.offerChangedClass_ok (h : (s.lane n).committed.level = .ok) : s.offerChangedClass n b = s := by
  simp only [State.offerChangedClass, h]

/-- A level that stays is handed to nobody. -/
@[simp] theorem State.handLevel_same (s : State) (n : LaneId) (v : Level) : s.handLevel n v v = s := by
  cases v <;> rfl

/-- R72: a level that becomes LOW asserts the source in the low class, and its class is offered thereby. -/
theorem State.offerChangedClass_ok_low (h : (s.lane n).committed.level = .low) :
    (s.handLevel n .ok .low).offerChangedClass n b = s.assertSource n .restock (s.lane n).binding.lowClass := by
  have e : s.handLevel n .ok .low = s.assertSource n .restock (s.lane n).binding.lowClass := rfl
  have el := (s.touched_assertSource n .restock (s.lane n).binding.lowClass).lane n
  rw [e, State.offerChangedClass_low (by rw [el, h]), el, State.offerClass_assertSource, ite_self]

end

/-- The lane and the level that `rebind` writes. -/
theorem State.lane_rebind (s : State) (n m : LaneId) (f : BindFields) :
    (s.rebind n f).lane m = (s.putLane n ((s.lane n).rebound f)).lane m :=
  ((State.touched_handLevel _ _ _ _).trans (State.touched_offerChangedClass _ _ _)).lane m

theorem lanesAndCallsOnly_rebind (s : State) (n : LaneId) (f : BindFields) : LanesAndCallsOnly s (s.rebind n f) := by
  have h : CallsOnly (s.putLane n ((s.lane n).rebound f)) (s.rebind n f) :=
    (State.touched_handLevel _ _ _ _).trans (State.touched_offerChangedClass _ _ _)
  generalize s.rebind n f = t at h ⊢
  rw [h]
  rfl

/-- An accepted BIND_LANE on a bound lane. -/
theorem exec_rebind {s : State} {h : Header} {n : LaneId} {item : BitVec 32} {u tol low clear : Nat} {lc ec : ClassId}
    {bay : BayId} (hs : Hears s h) (hsave : s.store.save ≠ .saving) (ho : (s.lane n).state ≠ .off)
    (hc : (s.lane n).state ≠ .capture) (h1 : 1 ≤ u) (h2 : u ≤ 60000) (ht : tol < 65536) (h3 : low < clear) (h4 : clear ≤ 10000) :
    exec (.bindLane h (w8 n :: w32 item ++ w16 u ++ w16 tol ++ w16 low ++ w16 clear ++ [w8 lc, w8 ec, w8 bay])) s =
      .next (answered s ((atHunt s).rebind n (.taken item u tol low clear lc ec bay)) h 18 .ok
        (w8 n :: w32 item ++ w16 u ++ w16 (max 10 (min 450 tol)) ++ w16 low ++ w16 clear ++
          [w8 lc, w8 ec, w8 bay, w8 (s.lane n).state.code])) := by
  rw [exec_bindLane hs hsave hc h1 h2 ht h3 h4, State.bind, if_neg (by exact ho)]
  have hl : (((atHunt s).rebind n (.taken item u tol low clear lc ec bay)).lane n).state = (s.lane n).state := by
    rw [State.lane_rebind, State.lane_putLane_self]
    rfl
  rw [hl, reply_accept (unitAddress_of_lanesAndCalls (lanesAndCallsOnly_rebind _ n _))]
  simp [bindEcho, BindFields.taken]

/-- R11, R69, R72, R128: what the call controller is handed by a level that is re-evaluated. -/
theorem State.rebind_handOff {s : State} {n : LaneId} (h : LevelAgrees (s.lane n)) (f : BindFields) {u : State}
    (hu : u = s.putLane n ((s.lane n).rebound f)) :
    ((s.lane n).relevel f = .ok → (s.lane n).committed.level ≠ .ok → s.rebind n f = u.clearSource n .restock) ∧
    ((s.lane n).relevel f = .low → (s.lane n).committed.level = .ok → s.rebind n f = u.assertSource n .restock f.lowClass) ∧
    ((s.lane n).relevel f = (s.lane n).committed.level →
      ((s.lane n).relevel f = .low → f.lowClass ≠ (s.lane n).binding.lowClass →
        s.rebind n f = u.offerClass n .restock f.lowClass) ∧
      ((s.lane n).relevel f = .empty → f.emptyClass ≠ (s.lane n).binding.emptyClass →
        s.rebind n f = u.offerClass n .restock f.emptyClass) ∧
      (((s.lane n).relevel f = .none ∨ (s.lane n).relevel f = .ok ∨
          (s.lane n).relevel f = .low ∧ f.lowClass = (s.lane n).binding.lowClass ∨
          (s.lane n).relevel f = .empty ∧ f.emptyClass = (s.lane n).binding.emptyClass) → s.rebind n f = u)) := by
  have e : s.rebind n f =
      (u.handLevel n (s.lane n).committed.level ((s.lane n).relevel f)).offerChangedClass n (s.lane n).binding := by
    rw [hu]
    rfl
  have el : u.lane n = (s.lane n).rebound f := by rw [hu, State.lane_putLane_self]
  have ev : (u.lane n).committed.level = (s.lane n).relevel f := by rw [el]; rfl
  have elc : (u.lane n).binding.lowClass = f.lowClass := by rw [el]; rfl
  have eec : (u.lane n).binding.emptyClass = f.emptyClass := by rw [el]; rfl
  rw [e]
  refine ⟨fun hv hold => ?_, fun hv hold => ?_, fun hsame => ?_⟩
  · have hlow : (s.lane n).committed.level = .low := by
      rcases Lane.relevel_cases h f with hr | ⟨-, hr⟩ | ⟨hr, -⟩
      · exact absurd (hr.symm.trans hv) hold
      · exact hr
      · rw [hr] at hv; cases hv
    rw [hv, hlow]
    refine State.offerChangedClass_ok ?_
    rw [(State.touched_handLevel u n .low .ok).lane, ev, hv]
  · rw [hv, hold, State.offerChangedClass_ok_low (ev.trans hv), elc]
  · rw [← hsame, State.handLevel_same]
    refine ⟨fun hv hc => ?_, fun hv hc => ?_, fun hv => ?_⟩
    · rw [State.offerChangedClass_low (ev.trans hv), elc, if_neg hc.symm]
    · rw [State.offerChangedClass_empty (ev.trans hv), eec, if_neg hc.symm]
    · rcases hv with hv | hv | ⟨hv, hc⟩ | ⟨hv, hc⟩
      · exact State.offerChangedClass_none (ev.trans hv)
      · exact State.offerChangedClass_ok (ev.trans hv)
      · rw [State.offerChangedClass_low (ev.trans hv), elc, if_pos hc.symm]
      · rw [State.offerChangedClass_empty (ev.trans hv), eec, if_pos hc.symm]

/-- Settles O18: the lane as rewritten, its level, and what the calls are handed. -/
theorem bindInPlaceKeepsTheLane : Obligations.BindInPlaceKeepsTheLane := by
  intro s h n item u tol low clear lc ec bay hs hsave ho hc hv h1 h2 ht h3 h4
  have hl := (atHunt s).lane_rebind n n (.taken item u tol low clear lc ec bay)
  rw [State.lane_putLane_self] at hl
  exact ⟨_, _, exec_rebind hs hsave ho hc h1 h2 ht h3 h4, lanesAndCallsOnly_rebind _ n _,
    fun m hm => (State.lane_rebind _ n m _).trans (State.lane_putLane_ne _ _ _ _ hm), hl, Lane.relevel_eq hv _,
    State.rebind_handOff (s := atHunt s) hv _ (by rw [hl])⟩

end Sys2Proof.Machine
end

section
/-! SUPPORT. What a conversion writes, and the order of the scanner's visits (O47). -/

namespace Sys2Proof.Machine

/-! ### What a conversion of one lane leaves alone (R29, R33) -/

/-- Everything but the scanner's position, the lanes, the captures, the journal and the hold slots, the watch rules, the calls and
the attention reasons that these blocks set stands. -/
abbrev ConversionFrame (s t : State) : Prop :=
  t = { s with
    scan := t.scan, lanes := t.lanes, captures := t.captures, journal := t.journal, holds := t.holds, rules := t.rules
    calls := t.calls, markers := t.markers
    attention := { s.attention with newCall := t.attention.newCall, journal := t.attention.journal
                                    held := t.attention.held, fault := t.attention.fault } }

theorem ConversionFrame.trans {s t u : State} (h : ConversionFrame s t) (k : ConversionFrame t u) : ConversionFrame s u := by
  unfold ConversionFrame at *
  rw [k]
  conv_lhs => rw [h]

/-- The state moves from `s` to `t` by work on lane `n` alone: of the lanes and the hold slots, only those of `n` are written. -/
structure WorksOn (n : LaneId) (s t : State) : Prop where
  frame : ConversionFrame s t
  lane  : ∀ m, m ≠ n → t.lane m = s.lane m
  held  : ∀ m, m ≠ n → t.held m = s.held m

theorem WorksOn.refl (n : LaneId) (s : State) : WorksOn n s s := ⟨rfl, fun _ _ => rfl, fun _ _ => rfl⟩

theorem WorksOn.trans {n : LaneId} {s t u : State} (h : WorksOn n s t) (k : WorksOn n t u) : WorksOn n s u where
  frame := h.frame.trans k.frame
  lane m hm := (k.lane m hm).trans (h.lane m hm)
  held m hm := (k.held m hm).trans (h.held m hm)

theorem WorksOn.of_calls {n : LaneId} {s t : State} (h : CallsOnly s t) : WorksOn n s t :=
  ⟨by rw [h], fun m _ => h.lane m, fun m _ => h.held m⟩

theorem WorksOn.putLane (s : State) (n : LaneId) (l : Lane) : WorksOn n s (s.putLane n l) :=
  ⟨rfl, fun m hm => s.lane_putLane_ne n m l hm, fun _ _ => rfl⟩

theorem WorksOn.putCapture (n : LaneId) (s : State) (i : CaptureId) (c : Option Capture) : WorksOn n s (s.putCapture i c) :=
  ⟨rfl, fun _ _ => rfl, fun _ _ => rfl⟩

/-- A capture slot is written together with the lane that it runs for. -/
theorem WorksOn.putSlot (s : State) (i : CaptureId) (c : Option Capture) (n : LaneId) (l : Lane) :
    WorksOn n s ((s.putCapture i c).putLane n l) :=
  (putCapture n s i c).trans (putLane _ n l)

theorem WorksOn.journalEntry (s : State) (m : Movement) : WorksOn m.lane s (s.journalEntry m) where
  frame := by rw [s.journal_entry m]
  lane k _ := s.lane_journalEntry m k
  held k hk := (s.held_journalEntry m k).resolve_right hk

theorem WorksOn.watchEvaluate (n : LaneId) (s : State) (m : Movement) : WorksOn n s (s.watchEvaluate m) := by
  have h : WorksOn n s { s with rules := mapTable s.rules fun _ r => ruleAfter r m } := ⟨rfl, fun _ _ => rfl, fun _ _ => rfl⟩
  unfold State.watchEvaluate
  dsimp only
  split
  · exact h.trans (.of_calls (State.touched_assertSource _ _ _ _))
  · exact h

/-! ### The plateau works on its lane (R46 to R60) -/

theorem WorksOn.baseline (s : State) (n : LaneId) : WorksOn n s (s.baseline n) := by
  unfold State.baseline
  dsimp only
  split
  · exact (putLane s n _).trans (.of_calls ((State.touched_handLevel _ n _ _).trans (State.touched_sweep _ _)))
  · exact (putLane s n _).trans (.of_calls (State.touched_handLevel _ n _ _))

theorem WorksOn.ordinary (s : State) (n : LaneId) : WorksOn n s (s.ordinary n) := by
  unfold State.ordinary
  dsimp only
  refine WorksOn.trans ?_ (.of_calls (State.touched_handLevel _ n _ _))
  split
  · exact putLane s n _
  · exact ((putLane s n _).trans (watchEvaluate n _ _)).trans (journalEntry _ (s.formMovement n))

theorem WorksOn.track (s : State) (n : LaneId) : WorksOn n s (s.track n) := by
  unfold State.track
  split
  · exact (putLane s n _).trans (.of_calls (State.touched_handFault _ _ _))
  · exact .refl n s

theorem WorksOn.plateau (s : State) (n : LaneId) : WorksOn n s (s.plateau n) := by
  unfold State.plateau
  split
  · exact .refl n s
  · split
    · exact (baseline s n).trans (track _ n)
    · exact (ordinary s n).trans (track _ n)

/-! ### A capture works on its lane (R81 to R88) -/

theorem WorksOn.completeCapture (s : State) (i : CaptureId) (n : LaneId) (c : Capture) :
    WorksOn n s (s.completeCapture i n c) := by
  unfold State.completeCapture
  split
  · dsimp only
    split
    · exact (putSlot s i none n _).trans (.of_calls (State.touched_clearSource _ _ _))
    · exact putSlot s i none n _
  · exact putSlot s i none n _

theorem WorksOn.captureNormal (s : State) (n : LaneId) (i : CaptureId) (c : Capture) (r : Int) :
    WorksOn n s (s.captureNormal n i c r) := by
  unfold State.captureNormal
  dsimp only
  split
  · exact putSlot s i _ n _
  · split
    · exact (putLane s n _).trans (completeCapture _ i n c)
    · exact putLane s n _

theorem WorksOn.abortCapture (s : State) (n : LaneId) : WorksOn n s (s.abortCapture n) := by
  unfold State.abortCapture
  split
  · exact putSlot s _ none n _
  · exact .refl n s

/-! ### A conversion works on the lane under visit (R29, R33) -/

theorem WorksOn.faultEntry (s : State) (n : LaneId) (c : Condition) : WorksOn n s (s.faultEntry n c) := by
  have h := (putLane s n ((s.lane n).enterFault c)).trans (abortCapture _ n)
  unfold State.faultEntry
  generalize (s.putLane n ((s.lane n).enterFault c)).abortCapture n = t at h ⊢
  have ha : WorksOn n t (t.notify fun a => { a with fault := true }) := ⟨rfl, fun _ _ => rfl, fun _ _ => rfl⟩
  exact (h.trans ha).trans (.of_calls (State.touched_assertSource _ _ _ _))

theorem WorksOn.abnormalConversion (s : State) (n : LaneId) (c : Condition) : WorksOn n s (s.abnormalConversion n c) := by
  unfold State.abnormalConversion
  dsimp only
  split
  · exact putLane s n _
  · exact (putLane s n _).trans (faultEntry _ n c)

theorem WorksOn.faultRecovery (s : State) (n : LaneId) (r : Int) : WorksOn n s (s.faultRecovery n r) := by
  unfold State.faultRecovery
  dsimp only
  split
  · exact putLane s n _
  · exact (putLane s n _).trans (.of_calls (State.touched_clearSource _ _ _))

theorem WorksOn.movingNormal (s : State) (n : LaneId) (r : Int) : WorksOn n s (s.movingNormal n r) := by
  unfold State.movingNormal
  dsimp only
  split
  · exact (putLane s n _).trans (plateau _ n)
  · exact putLane s n _

theorem WorksOn.takeConversion (s : State) (n : LaneId) (rd : Reading) : WorksOn n s (s.takeConversion n rd) := by
  unfold State.takeConversion
  dsimp only
  split
  case h_1 => exact .refl n s
  case h_2 =>
    split
    · exact movingNormal s n _
    · exact abnormalConversion s n _
  case h_3 =>
    split
    · exact putLane s n _
    · exact abnormalConversion s n _
  case h_4 =>
    split
    · split
      · split
        · exact captureNormal s n _ _ _
        · exact .refl n s
      · exact putLane s n _
    · exact abnormalConversion s n _
  case h_5 =>
    split
    · split
      · exact faultRecovery s n _
      · exact putLane s n _
    · exact putLane s n _

/-- R29: a conversion that meets an OFF lane is discarded. -/
theorem State.takeConversion_off {s : State} {n : LaneId} (h : (s.lane n).state = .off) (rd : Reading) :
    s.takeConversion n rd = s := by
  simp [State.takeConversion, h]

/-! ### The scanner's choice (R27, R28) -/

/-- A search over a table's indices finds an index that passes when none below it does. -/
theorem find_finRange_eq_some {n : Nat} {p : Fin n → Bool} {i : Fin n} (hi : p i = true) (hlow : ∀ j < i, p j = false) :
    (List.finRange n).find? p = some i := by
  cases e : (List.finRange n).find? p with
  | none => simp [find_finRange_none.mp e i] at hi
  | some j =>
    obtain ⟨hj, hj'⟩ := find_finRange_some e
    rcases lt_trichotomy i j with hij | rfl | hji
    · simp [hj' i hij] at hi
    · rfl
    · simp [hlow j hji] at hj

section
variable {s : State} {n m : LaneId}

theorem State.lowestBound_eq_some (hn : (s.lane n).state ≠ .off) (hlow : ∀ k < n, (s.lane k).state = .off) :
    s.lowestBound = some n :=
  find_finRange_eq_some (by simpa using hn) fun k hk => by simp [hlow k hk]

theorem State.lowestBound_eq_none (h : ∀ k, (s.lane k).state = .off) : s.lowestBound = none :=
  find_finRange_none.mpr fun k => by simp [h k]

theorem State.nextBound_eq_some (hn : (s.lane n).state ≠ .off) (hmn : m < n)
    (hlow : ∀ k, m < k → k < n → (s.lane k).state = .off) : s.nextBound m = some n :=
  find_finRange_eq_some (by simpa using ⟨hmn, hn⟩) fun k hk => by simpa using fun hmk => hlow k hmk hk

theorem State.nextBound_eq_none (h : ∀ k, m < k → (s.lane k).state = .off) : s.nextBound m = none :=
  find_finRange_none.mpr fun k => by simpa using h k
end

/-- R28: the visit `p` is to have its second conversion. -/
abbrev State.ConvertsAgain (s : State) (p : ScanPosition) : Prop :=
  p.second = false ∧ ((s.lane p.lane).state = .moving ∨ (s.lane p.lane).state = .capture)

theorem State.nextPosition_again {s : State} {p : ScanPosition} (h : s.ConvertsAgain p) :
    s.nextPosition p = some { lane := p.lane, second := true } := by
  simp [State.nextPosition, h]

/-- R27: where no second conversion follows, the scanner goes to the next bound lane, or else begins a round at the lowest. -/
theorem State.nextPosition_onward {s : State} {p : ScanPosition} (h : ¬s.ConvertsAgain p) :
    s.nextPosition p = ((s.nextBound p.lane).or s.lowestBound).map fun n => { lane := n, second := false } := by
  rw [State.nextPosition, if_neg (by simpa using h)]
  cases s.nextBound p.lane <;> rfl

/-- R27, R31: with no lane bound, the scanner becomes IDLE. -/
theorem State.nextPosition_idle {s : State} {p : ScanPosition} (h : ∀ n, (s.lane n).state = .off) : s.nextPosition p = none := by
  rw [State.nextPosition_onward (by simp [State.ConvertsAgain, h]), State.nextBound_eq_none fun k _ => h k,
    State.lowestBound_eq_none h]
  rfl

/-! ### CONVERSION (R26 to R29, R31) -/

theorem exec_conversion {s : State} (h : s.operating = true) (rd : Reading) : exec (.conversion rd) s = .next (s.converted rd) := by
  have e : exec (.conversion rd) s = execConversion rd s := rfl
  simp [e, execConversion, convertIf, h]

theorem State.converted_idle {s : State} (h : s.scan = none) (rd : Reading) : s.converted rd = s := by
  simp [State.converted, h]

theorem State.converted_visit {s : State} {p : ScanPosition} (h : s.scan = some p) (rd : Reading) :
    s.converted rd =
      { s.takeConversion p.lane rd with scan := (s.takeConversion p.lane rd).nextPosition p } := by
  simp [State.converted, h]

/-- Settles O47: the conversion works on the lane under visit alone, and the scanner then chooses by the lanes as they stand. -/
theorem roundsVisitTheBoundLanes : Obligations.RoundsVisitTheBoundLanes := by
  intro s rd hs
  refine ⟨fun hidle => by rw [exec_conversion hs, State.converted_idle hidle], fun p hp => ?_⟩
  refine ⟨_, (exec_conversion hs rd).trans (congrArg _ (State.converted_visit hp rd)), ?_⟩
  have hw := WorksOn.takeConversion s p.lane rd
  have hoff := State.takeConversion_off (s := s) (n := p.lane) (rd := rd)
  generalize s.takeConversion p.lane rd = u at hw hoff ⊢
  refine ⟨hw.frame.trans rfl, fun n hn => ⟨hw.lane n hn, hw.held n hn⟩, fun h => by rw [hoff h],
    State.nextPosition_again, fun hagain n hn => ⟨fun hlt hbetween => ?_, fun habove hbelow => ?_⟩, State.nextPosition_idle⟩
  · exact (State.nextPosition_onward hagain).trans (by rw [State.nextBound_eq_some hn hlt hbetween]; rfl)
  · exact (State.nextPosition_onward hagain).trans
      (by rw [State.nextBound_eq_none habove, State.lowestBound_eq_some hn hbelow]; rfl)

end Sys2Proof.Machine
end

section
/-! SUPPORT. The weighing arithmetic of one lane in the claims' own terms (R23, R35 to R44), what a conversion makes of the lane
under visit, state by state (R33), and the NORMAL conversion without a plateau (O48). -/

namespace Sys2Proof.Machine

/-! ### The condition of a reading (R23) -/

theorem condition_of_normalReading {rd : Reading} {r : Int} (h : NormalReading rd r) :
    condition rd = .normal ∧ rawValue rd = r := by
  obtain ⟨hlow, rfl, hmin, hmax⟩ := h
  exact ⟨by simp [condition, hlow, rawValue, Config.rawMin, Config.rawMax, hmin, hmax], rfl⟩

theorem condition_noResponse {rd : Reading} (h : rd.lowCurrent = true) : condition rd = .noResponse := by
  simp [condition, h]

theorem condition_clipped {rd : Reading} (h : rd.lowCurrent = false)
    (hr : rd.raw.toInt = -8388608 ∨ rd.raw.toInt = 8388607) : condition rd = .clipped := by
  simp [condition, h, rawValue, Config.rawMin, Config.rawMax, hr]

/-! ### The filter and the calm test (R35 to R38) -/

section
variable {l : Lane} {r f : Int} {calm : Nat}

theorem restartsFilter_iff : restartsFilter l r = true ↔ (l.weighing.jump : Int) < |r - l.work.filtered| := by
  rw [restartsFilter, deviation, decide_eq_true_eq, Int.abs_eq_natAbs]
  exact Int.ofNat_lt.symm

theorem filtered_eq (l : Lane) (r : Int) : filtered l r =
    if l.weighing.shift = 0 then r
    else l.work.filtered + (r - l.work.filtered).sign *
      ((|r - l.work.filtered| + 2 ^ (l.weighing.shift - 1)) / 2 ^ l.weighing.shift) := by
  simp only [filtered, filterStep, deviation, Int.abs_eq_natAbs]
  push_cast
  rfl

theorem calmAfter_eq (l : Lane) (f r : Int) :
    calmAfter l f r = if |r - f| ≤ l.weighing.band then min 255 (l.work.calm + 1) else 0 := by
  unfold calmAfter
  exact if_congr (by rw [Int.abs_eq_natAbs, Int.ofNat_le]) rfl rfl

theorem FilterOf.filterResult_eq (h : FilterOf l r f calm) : filterResult l r = (f, calm) := by
  obtain ⟨hjump, hstep⟩ := h
  by_cases hj : (l.weighing.jump : Int) < |r - l.work.filtered|
  · obtain ⟨rfl, rfl⟩ := hjump hj
    exact if_pos (restartsFilter_iff.mpr hj)
  · obtain ⟨hf, hcalm⟩ := hstep (not_lt.mp hj)
    rw [← filtered_eq] at hf
    rw [← calmAfter_eq] at hcalm
    rw [hcalm, hf]
    exact if_neg (mt restartsFilter_iff.mp hj)

theorem FilterOf.plateausAt_iff (h : FilterOf l r f calm) :
    plateausAt l r = true ↔ |r - l.work.filtered| ≤ l.weighing.jump ∧ l.weighing.settle ≤ calm := by
  rw [plateausAt, h.filterResult_eq, Bool.and_eq_true, Bool.not_eq_true', ← Bool.not_eq_true, restartsFilter_iff, not_lt,
    decide_eq_true_eq]
end

/-! ### Net grams and the case estimate (R40 to R44) -/

theorem roundGrams_eq (p : Int) : roundGrams p = p.sign * ((|p| + 32768) / 65536) := by
  rw [roundGrams, Int.abs_eq_natAbs]
  push_cast
  rfl

theorem netOf_eq (g : Int) :
    netOf g = if g < -4000000 then -4000000 else if 4000000 < g then 4000000 else g := by
  unfold netOf Config.netLimit
  omega

theorem rawCount_eq (g : Int) (u : Nat) : (rawCount g u : Int) = if g ≤ 0 then 0 else (2 * g + u) / (2 * u) := by
  unfold rawCount
  split
  · rfl
  · push_cast
    rw [Int.toNat_of_nonneg (by omega)]

theorem countOf_eq (g : Int) (u : Nat) :
    (countOf g u : Int) = if (65535 : Int) < rawCount g u then 65535 else (rawCount g u : Int) := by
  unfold countOf Config.countCap
  omega

theorem perMille_eq (g : Int) (n u : Nat) : (perMille g n u : Int) = |g - n * u| * 1000 / u := by
  rw [perMille, Int.abs_eq_natAbs]
  push_cast
  rfl

theorem estimateOf_rounded {g : Int} (f z : Int) (gain u tolerance : Nat) (hg : g = roundGrams ((f - z) * gain)) :
    EstimateOf f z gain u tolerance (netOf g) (countOf (netOf g) u) (firmOf g u tolerance) := by
  simp only [EstimateOf, ← roundGrams_eq, ← hg]
  refine ⟨netOf_eq g, by rw [countOf_eq, rawCount_eq], ?_⟩
  simp only [firmOf, Bool.and_eq_true, decide_eq_true_eq, and_assoc, ← Int.ofNat_le, perMille_eq, rawCount_eq]
  rfl

/-- The values that `Lane.measured` computes are those of R40 to R44. -/
theorem estimateOf_measured (l : Lane) :
    EstimateOf l.work.filtered l.calibration.working l.calibration.gain l.binding.unitMass l.binding.tolerance
      l.measured.work.net l.measured.work.count l.measured.work.firm :=
  estimateOf_rounded _ _ _ _ _ rfl

/-- The lane that a NORMAL conversion in MOVING or STABLE makes, its state aside (R35 to R44). -/
theorem FilterOf.exists_followed {l : Lane} {r f : Int} {calm : Nat} (h : FilterOf l r f calm) :
    ∃ (net : Int) (count : Nat) (firm : Bool),
      EstimateOf f l.calibration.working l.calibration.gain l.binding.unitMass l.binding.tolerance net count firm ∧
      l.followed r = { l with
        work := { l.work with filtered := f, calm := calm, abnormalRun := 0, net := net, count := count, firm := firm } } := by
  have he := estimateOf_measured (l.filter r)
  have hf : l.filter r = { l with work := { l.work with filtered := f, calm := calm, abnormalRun := 0 } } := by
    rw [Lane.filter, h.filterResult_eq]
  rw [hf] at he
  exact ⟨_, _, _, he, by rw [Lane.followed, hf]; rfl⟩

/-- The lane that recovers from FAULT (R52). -/
theorem Lane.exists_recovered (l : Lane) (r : Int) :
    ∃ (net : Int) (count : Nat) (firm : Bool),
      EstimateOf r l.calibration.working l.calibration.gain l.binding.unitMass l.binding.tolerance net count firm ∧
      l.recovered r = { l with
        state := .moving
        work := { l.work with filtered := r, calm := 0, abnormalRun := 0, recoveryRun := 0, faultReason := .none, stale := false
                              net := net, count := count, firm := firm }
        committed := { l.committed with recountDue := true } } :=
  ⟨_, _, _, estimateOf_measured { l with work := { l.work with filtered := r } }, rfl⟩

/-! ### The conversion of the lane under visit, and the rows that name one (R33) -/

section
variable {s : State} {n : LaneId} {rd : Reading}

theorem Visits.exec_conversion (h : Visits s n) (rd : Reading) :
    ∃ p, exec (.conversion rd) s = .next { s.takeConversion n rd with scan := p } := by
  obtain ⟨hs, hn⟩ := h
  obtain ⟨p, hp, rfl⟩ := Option.map_eq_some_iff.mp hn
  exact ⟨_, (Machine.exec_conversion hs rd).trans (congrArg _ (State.converted_visit hp rd))⟩

theorem Visits.underVisit (h : Visits s n) : s.underVisit = some n := by
  rw [State.underVisit, if_pos h.1, h.2]

theorem exec_faultEntry (h : s.entersFault rd = true) : exec (.faultEntry rd) s = exec (.conversion rd) s := by
  have e : exec (.faultEntry rd) s = .next (convertIf (s.entersFault rd) rd s) := rfl
  rw [e, h]; rfl

theorem exec_faultRecovery (h : s.leavesFault rd = true) : exec (.faultRecovery rd) s = exec (.conversion rd) s := by
  have e : exec (.faultRecovery rd) s = .next (convertIf (s.leavesFault rd) rd s) := rfl
  rw [e, h]; rfl

theorem exec_plateau (h : s.makesPlateau rd = true) : exec (.plateau rd) s = exec (.conversion rd) s := by
  have e : exec (.plateau rd) s = .next (convertIf (s.makesPlateau rd) rd s) := rfl
  rw [e, h]; rfl

theorem State.takeConversion_moving (hl : (s.lane n).state = .moving) (hc : condition rd = .normal) :
    s.takeConversion n rd = s.movingNormal n (rawValue rd) := by
  simp [State.takeConversion, hl, hc]

theorem State.takeConversion_stable (hl : (s.lane n).state = .stable) (hc : condition rd = .normal) :
    s.takeConversion n rd = s.stableNormal n (rawValue rd) := by
  simp [State.takeConversion, hl, hc]

theorem State.takeConversion_fault (hl : (s.lane n).state = .fault) (hc : condition rd = .normal) :
    s.takeConversion n rd =
      if recovers (s.lane n) then s.faultRecovery n (rawValue rd) else s.putLane n (s.lane n).recovering := by
  simp [State.takeConversion, hl, hc]

theorem State.takeConversion_abnormal
    (hl : (s.lane n).state = .moving ∨ (s.lane n).state = .stable ∨ (s.lane n).state = .capture) (hc : condition rd ≠ .normal) :
    s.takeConversion n rd = s.abnormalConversion n (condition rd) := by
  rcases hl with hl | hl | hl <;> simp [State.takeConversion, hl, hc]

theorem State.takeConversion_fault_abnormal (hl : (s.lane n).state = .fault) (hc : condition rd ≠ .normal) :
    s.takeConversion n rd = s.putLane n ((s.lane n).relapsed (condition rd)) := by
  simp [State.takeConversion, hl, hc]
end

/-! ### A NORMAL conversion without a plateau (O48) -/

theorem State.movingNormal_of_not_plateausAt {s : State} {n : LaneId} {r : Int} (h : ¬plateausAt (s.lane n) r = true) :
    s.movingNormal n r = s.putLane n ((s.lane n).followed r) :=
  if_neg h

/-- R38, R39: a NORMAL conversion without a plateau writes the followed lane; a lane whose calm count is 0 is MOVING after it. -/
theorem State.takeConversion_followed {s : State} {n : LaneId} {rd : Reading} {r f : Int} {calm : Nat} (hrd : NormalReading rd r)
    (hst : (s.lane n).state = .moving ∨ (s.lane n).state = .stable) (hf : FilterOf (s.lane n) r f calm)
    (hp : (s.lane n).state = .moving → ¬plateausAt (s.lane n) r = true) :
    s.takeConversion n rd =
      s.putLane n { (s.lane n).followed r with state := if calm = 0 then .moving else (s.lane n).state } := by
  obtain ⟨hc, rfl⟩ := condition_of_normalReading hrd
  rcases hst with hm | hs
  · rw [takeConversion_moving hm hc, movingNormal_of_not_plateausAt (hp hm), hm, ite_self, ← hm]
    rfl
  · rw [takeConversion_stable hs hc, hs, State.stableNormal, hf.filterResult_eq]

/-- Settles O48: the lane is the followed one, whose values are those of R35 to R44. -/
theorem normalConversionsFollowTheLoad : Obligations.NormalConversionsFollowTheLoad := by
  intro s n rd r f calm hv hrd hst hf hnot
  obtain ⟨net, count, firm, hest, hlane⟩ := hf.exists_followed
  obtain ⟨p, he⟩ := hv.exec_conversion rd
  have hp : (s.lane n).state = .moving → ¬plateausAt (s.lane n) r = true := fun hm hpl => by
    obtain ⟨hjump, hcalm⟩ := hf.plateausAt_iff.mp hpl
    exact (hnot hm).elim (not_lt.mpr hcalm) (not_lt.mpr hjump)
  rw [State.takeConversion_followed hrd hst hf hp, hlane] at he
  exact ⟨_, net, count, firm, he, hest, rfl⟩

end Sys2Proof.Machine
end

section
/-! SUPPORT. Abnormal conversions, FAULT_ENTRY and FAULT_RECOVERY (O49, O50). -/

namespace Sys2Proof.Machine

section
variable {s : State} {n : LaneId} {rd : Reading}

/-! ### The row that names the conversion (R50, R52) -/

theorem Visits.entersFault (h : Visits s n) (hc : condition rd ≠ .normal) (hrun : 2 ≤ (s.lane n).work.abnormalRun)
    (hl : (s.lane n).state = .moving ∨ (s.lane n).state = .stable ∨ (s.lane n).state = .capture) :
    s.entersFault rd = true := by
  simp only [State.entersFault, h.underVisit, Config.abnormalLimit, Bool.and_eq_true, Bool.or_eq_true, bne_iff_ne, beq_iff_eq]
  exact ⟨⟨hc, decide_eq_true (Nat.succ_le_succ hrun)⟩, or_assoc.mpr hl⟩

theorem recovers_iff {l : Lane} : recovers l = true ↔ 7 ≤ l.work.recoveryRun := by
  simp [recovers, Config.recoveryLimit]

theorem Visits.leavesFault (h : Visits s n) (hc : condition rd = .normal) (hl : (s.lane n).state = .fault)
    (hrun : 7 ≤ (s.lane n).work.recoveryRun) : s.leavesFault rd = true := by
  simp [State.leavesFault, h.underVisit, hc, hl, recovers_iff.mpr hrun]

/-! ### FAULT_ENTRY (R49, R50, R88) -/

theorem State.abnormalConversion_early (c : Condition) (h : (s.lane n).work.abnormalRun < 2) :
    s.abnormalConversion n c = s.putLane n (s.lane n).abnormal := by
  unfold State.abnormalConversion
  dsimp only
  rw [State.lane_putLane_self]
  exact if_pos (by simp only [Lane.abnormal, Config.abnormalLimit]; omega)

theorem State.abnormalConversion_third (c : Condition) (h : 2 ≤ (s.lane n).work.abnormalRun) :
    s.abnormalConversion n c =
      (((s.putLane n ((s.lane n).abnormal.enterFault c)).abortCapture n).notify fun a => { a with fault := true }).assertSource
        n .fault s.device.faultClass := by
  unfold State.abnormalConversion State.faultEntry
  dsimp only
  rw [State.lane_putLane_self, State.putLane_putLane]
  exact if_neg (by simp only [Lane.abnormal, Config.abnormalLimit]; omega)

theorem State.abortCapture_of_idle (l : Lane) (h : ∀ i c, s.capture i = some c → c.lane ≠ n) :
    (s.putLane n l).abortCapture n = s.putLane n l := by
  rw [State.abortCapture, State.captureSlot_putLane, State.captureSlot_none.mpr h]

theorem State.abortCapture_of_running (l : Lane) {i : CaptureId} {c : Capture} (hi : s.capture i = some c) (hn : c.lane = n)
    (huniq : ∀ j d, s.capture j = some d → d.lane = n → j = i) :
    (s.putLane n l).abortCapture n = (s.putCapture i none).putLane n { l with outcome := .abortedFault } := by
  cases e : s.captureSlot n with
  | none => exact absurd hn (State.captureSlot_none.mp e i c hi)
  | some j =>
    obtain ⟨d, hj, hd⟩ := State.captureSlot_some e
    rw [State.abortCapture, State.captureSlot_putLane, e, huniq j d hj hd, State.lane_putLane_self]
    exact State.putLane_putLane (s.putCapture i none) n _ _

/-- The lane at the third abnormal conversion in a row (R49, R50). -/
theorem Lane.enterFault_abnormal {l : Lane} (h2 : 2 ≤ l.work.abnormalRun) (h3 : l.work.abnormalRun ≤ 3) (c : Condition) :
    l.abnormal.enterFault c = { l with
      state := .fault
      work := { l.work with calm := 0, abnormalRun := 3, recoveryRun := 0, faultReason := c.reason, stale := true } } := by
  have : min Config.abnormalLimit (l.work.abnormalRun + 1) = 3 := by unfold Config.abnormalLimit; omega
  simp only [Lane.enterFault, Lane.abnormal, this]

end

/-- Settles O49: before the third in a row, at the third, and in FAULT. -/
theorem abnormalConversionsBringFault : Obligations.AbnormalConversionsBringFault := by
  intro s n rd why hv h3 hwhy l
  have hc : condition rd ≠ .normal ∧ (condition rd).reason = why := by
    rcases hwhy with ⟨rfl, hlow⟩ | ⟨rfl, hlow, hraw⟩
    · rw [condition_noResponse hlow]; decide
    · rw [condition_clipped hlow hraw]; decide
  obtain ⟨hc, rfl⟩ := hc
  obtain ⟨p, he⟩ := hv.exec_conversion rd
  refine ⟨fun hl hrun => ?_, fun hl hrun => ?_, fun hl => ?_⟩
  · have hmin : min Config.abnormalLimit (l.work.abnormalRun + 1) = l.work.abnormalRun + 1 := by
      unfold Config.abnormalLimit; omega
    rw [State.takeConversion_abnormal hl hc, State.abnormalConversion_early _ hrun, Lane.abnormal, hmin] at he
    exact ⟨_, he, rfl⟩
  · rw [State.takeConversion_abnormal hl hc, State.abnormalConversion_third _ hrun, Lane.enterFault_abnormal hrun h3] at he
    exact ⟨_, _, he, (exec_faultEntry (hv.entersFault hc hrun hl)).trans he, rfl, State.abortCapture_of_idle _,
      fun i c => State.abortCapture_of_running _⟩
  · rw [State.takeConversion_fault_abnormal hl hc] at he
    exact ⟨_, he, rfl⟩

/-! ### FAULT_RECOVERY (R51, R52) -/

/-- Settles O50: the seven conversions before the recovery, and the eighth. -/
theorem faultRecoversAtTheEighth : Obligations.FaultRecoversAtTheEighth := by
  intro s n rd r hv hrd hl l
  obtain ⟨hc, rfl⟩ := condition_of_normalReading hrd
  obtain ⟨p, he⟩ := hv.exec_conversion rd
  rw [State.takeConversion_fault hl hc] at he
  refine ⟨fun hrun => ?_, fun hrun => ?_⟩
  · rw [if_neg (mt recovers_iff.mp (Nat.not_le.mpr hrun))] at he
    exact ⟨_, he, rfl⟩
  · obtain ⟨net, count, firm, hest, hlane⟩ := l.exists_recovered (rawValue rd)
    rw [if_pos (recovers_iff.mpr hrun), State.faultRecovery, hlane] at he
    exact ⟨_, _, net, count, firm, he, (exec_faultRecovery (hv.leavesFault hc hl hrun)).trans he, hest, rfl, rfl⟩

end Sys2Proof.Machine
end

section
/-! SUPPORT. The plateau: its three paths, the movement it forms, and the zero tracking that follows (O52). -/

namespace Sys2Proof.Machine

/-! ### Zero tracking of one lane (R46, R47) -/

theorem trackedZero_eq (l : Lane) : trackedZero l =
    if l.calibration.working < l.work.filtered then
      l.calibration.working + min (l.work.filtered - l.calibration.working) l.weighing.trackStep
    else l.calibration.working - min (l.calibration.working - l.work.filtered) l.weighing.trackStep := by
  unfold trackedZero
  dsimp only
  rcases lt_trichotomy l.calibration.working l.work.filtered with h | h | h
  · rw [if_pos h, Int.sign_eq_one_of_pos (by omega)]; omega
  · rw [if_neg (by omega), h, Int.sub_self]; simp
  · rw [if_neg (by omega), Int.sign_eq_neg_one_of_neg (by omega)]; omega

theorem withinTrack_iff {l : Lane} {z : Int} : withinTrack l z = true ↔
    l.calibration.zero - l.weighing.trackLimit ≤ z ∧ z ≤ l.calibration.zero + l.weighing.trackLimit := by
  rw [withinTrack, decide_eq_true_eq]
  omega

/-- The end of the range of Z on the side of the move toward F. -/
theorem trackEnd_eq {l : Lane} (h : l.calibration.working ≠ l.work.filtered) :
    l.calibration.zero + (l.work.filtered - l.calibration.working).sign * l.weighing.trackLimit =
      if l.calibration.working < l.work.filtered then l.calibration.zero + l.weighing.trackLimit
      else l.calibration.zero - l.weighing.trackLimit := by
  split
  · rw [Int.sign_eq_one_of_pos (by omega)]; omega
  · rw [Int.sign_eq_neg_one_of_neg (by omega)]; omega

/-- The lane with Z and drift written, as zero tracking writes them. -/
def Lane.withZero (l : Lane) (zero : Int) (drift : Bool) : Lane :=
  { l with calibration := { l.calibration with working := zero }, work := { l.work with drift := drift } }

theorem Lane.tracked_at {l : Lane} (h : l.calibration.working = l.work.filtered) :
    l.tracked = l.withZero l.calibration.working false :=
  if_pos (Int.sub_eq_zero.mpr h.symm)

section
variable {l : Lane} (h : l.calibration.working ≠ l.work.filtered)
include h

theorem Lane.tracked_within (hw : withinTrack l (trackedZero l) = true) : l.tracked = l.withZero (trackedZero l) false :=
  (if_neg fun e => h (Int.sub_eq_zero.mp e).symm).trans (if_pos hw)

theorem Lane.tracked_beyond (hw : ¬withinTrack l (trackedZero l) = true) :
    l.tracked = l.withZero
      (l.calibration.zero + (l.work.filtered - l.calibration.working).sign * l.weighing.trackLimit) true :=
  (if_neg fun e => h (Int.sub_eq_zero.mp e).symm).trans (if_neg hw)
end

/-- What zero tracking writes (R47): the target of the move, or the end of the range with drift set. -/
theorem Lane.exists_tracked (l : Lane) :
    let z := l.calibration.working
    let f := l.work.filtered
    let low := l.calibration.zero - l.weighing.trackLimit
    let high := l.calibration.zero + l.weighing.trackLimit
    let z' := if z < f then z + min (f - z) l.weighing.trackStep else z - min (z - f) l.weighing.trackStep
    ∃ (zero : Int) (drift : Bool),
      (z = f → zero = z ∧ drift = false) ∧
      (z ≠ f → low ≤ z' → z' ≤ high → zero = z' ∧ drift = false) ∧
      (z ≠ f → (z' < low ∨ high < z') → zero = (if z < f then high else low) ∧ drift = true) ∧
      l.tracked = l.withZero zero drift := by
  intro z f low high z'
  have hz' : trackedZero l = z' := trackedZero_eq l
  by_cases hzf : z = f
  · exact ⟨z, false, fun _ => ⟨rfl, rfl⟩, fun h => absurd hzf h, fun h => absurd hzf h, Lane.tracked_at hzf⟩
  by_cases hw : withinTrack l (trackedZero l) = true
  · have hin : low ≤ z' ∧ z' ≤ high := hz' ▸ withinTrack_iff.mp hw
    exact ⟨_, false, fun h => absurd h hzf, fun _ _ _ => ⟨hz', rfl⟩,
      fun _ h => (h.elim (not_lt.mpr hin.1) (not_lt.mpr hin.2)).elim, Lane.tracked_within hzf hw⟩
  · have hout : ¬(low ≤ z' ∧ z' ≤ high) := hz' ▸ mt withinTrack_iff.mpr hw
    exact ⟨_, true, fun h => absurd h hzf, fun _ h1 h2 => absurd ⟨h1, h2⟩ hout, fun _ _ => ⟨trackEnd_eq hzf, rfl⟩,
      Lane.tracked_beyond hzf hw⟩

theorem tracks_iff {l : Lane} : tracks l = true ↔
    l.binding.suspended = false ∧ l.committed.count = 0 ∧ l.committed.firm = true ∧ 0 < l.weighing.trackStep := by
  simp [tracks, and_assoc]

/-! ### The hand-off of a change of drift (R48) -/

section
variable {s u : State} {n : LaneId}

/-- On a lane that is not in FAULT, the FAULT source is drift alone. -/
theorem Lane.faultAsserted_eq_drift {l : Lane} (h : l.state ≠ .fault) : l.faultAsserted = l.work.drift := by
  simp [Lane.faultAsserted, h]

theorem State.handFault_drift (h : (s.lane n).state ≠ .fault) (before : Bool) :
    s.handFault n before =
      if (s.lane n).work.drift = before then s
      else if (s.lane n).work.drift = true then s.assertSource n .fault s.device.faultClass
      else s.clearSource n .fault := by
  rw [State.handFault, Lane.faultAsserted_eq_drift h]
  cases (s.lane n).work.drift <;> cases before <;> rfl

theorem State.track_idle (h : ¬tracks (u.lane n) = true) : u.track n = u := if_neg h

theorem State.track_of_tracks (h : (u.lane n).state ≠ .fault) (ht : tracks (u.lane n) = true) {zero : Int} {drift : Bool}
    (hz : (u.lane n).tracked = (u.lane n).withZero zero drift) :
    u.track n =
      let w := u.putLane n ((u.lane n).withZero zero drift)
      if drift = (u.lane n).work.drift then w
      else if drift = true then w.assertSource n .fault u.device.faultClass else w.clearSource n .fault := by
  rw [State.track, if_pos ht, hz, Lane.faultAsserted_eq_drift h,
    State.handFault_drift (by rw [State.lane_putLane_self]; exact h), State.lane_putLane_self]
  rfl

/-! ### The three paths (R55 to R60) -/

/-- The plateau logic of a lane that is not suspended, before zero tracking. -/
def State.plateauWork (s : State) (n : LaneId) : State :=
  if (s.lane n).binding.baselineNeeded then s.baseline n else s.ordinary n

theorem State.plateau_of_suspended (h : (s.lane n).binding.suspended = true) : s.plateau n = s := if_pos h

theorem State.plateau_of_active (h : (s.lane n).binding.suspended = false) : s.plateau n = (s.plateauWork n).track n := by
  rw [State.plateau, if_neg (by simp [h]), State.plateauWork]
  split <;> rfl

theorem WorksOn.plateauWork (s : State) (n : LaneId) : WorksOn n s (s.plateauWork n) := by
  unfold State.plateauWork
  split
  · exact .baseline s n
  · exact .ordinary s n

theorem WorksOn.device {t : State} (h : WorksOn n s t) : t.device = s.device := by rw [h.frame]

theorem State.lane_baseline (s : State) (n : LaneId) : (s.baseline n).lane n =
    { (s.lane n).commit .none with binding := { (s.lane n).binding with baselineNeeded := false } } := by
  unfold State.baseline
  dsimp only
  split
  · rw [(State.touched_sweep _ _).lane, (State.touched_handLevel _ _ _ _).lane, State.lane_putLane_self]
  · rw [(State.touched_handLevel _ _ _ _).lane, State.lane_putLane_self]

theorem State.lane_ordinary (s : State) (n : LaneId) :
    (s.ordinary n).lane n = (s.lane n).commit (s.lane n).committed.level := by
  unfold State.ordinary
  dsimp only
  rw [(State.touched_handLevel _ _ _ _).lane]
  split
  · rw [State.lane_putLane_self]
  · rw [State.lane_journalEntry, State.lane_watchEvaluate, State.lane_putLane_self]

/-- What the plateau logic of lane `l` leaves to zero tracking: both paths commit, leave baseline needed clear, and keep the
settings of the part. -/
theorem State.exists_plateauWork (s : State) (n : LaneId) (l : Lane) : ∃ before,
    ((s.putLane n l).plateauWork n).lane n =
      { l.commit before with binding := { l.binding with baselineNeeded := false } } ∧
    ((s.putLane n l).plateauWork n).device = s.device := by
  have hdev := (WorksOn.plateauWork (s.putLane n l) n).device
  unfold State.plateauWork at hdev ⊢
  rw [State.lane_putLane_self] at hdev ⊢
  split at hdev
  · next h =>
    rw [if_pos h]
    exact ⟨_, by rw [State.lane_baseline, State.lane_putLane_self], hdev⟩
  · next h =>
    rw [if_neg h]
    exact ⟨_, by rw [State.lane_ordinary, State.lane_putLane_self, ← Bool.eq_false_of_not_eq_true h]; rfl, hdev⟩

/-- R58: the level from scratch, handed on, and the sweep that a level NONE brings. -/
theorem State.plateauWork_baseline (l : Lane) (hb : l.binding.baselineNeeded = true) :
    (s.putLane n l).plateauWork n =
      let v := (s.putLane n { l.commit .none with binding := { l.binding with baselineNeeded := false } }).handLevel n
        l.committed.level (l.commit .none).committed.level
      if l.committed.level = .none then v.sweep [n] else v := by
  rw [State.plateauWork, State.lane_putLane_self, if_pos hb, State.baseline, State.lane_putLane_self, State.putLane_putLane]

theorem State.plateauWork_ordinary (l : Lane) (hb : l.binding.baselineNeeded = false) :
    (s.putLane n l).plateauWork n =
      let v := s.putLane n (l.commit l.committed.level)
      let m := (s.putLane n l).formMovement n
      (if l.work.count = l.committed.count then v else (v.watchEvaluate m).journalEntry m).handLevel n l.committed.level
        (l.commit l.committed.level).committed.level := by
  rw [State.plateauWork, State.lane_putLane_self, hb, if_neg Bool.false_ne_true, State.ordinary, State.lane_putLane_self,
    State.putLane_putLane]

/-- R59: a plateau that leaves the count commits, and hands the level on. -/
theorem State.plateauWork_same (l : Lane) (hb : l.binding.baselineNeeded = false) (hc : l.work.count = l.committed.count) :
    (s.putLane n l).plateauWork n = (s.putLane n (l.commit l.committed.level)).handLevel n l.committed.level
      (l.commit l.committed.level).committed.level :=
  (State.plateauWork_ordinary l hb).trans (by simp only [if_pos hc])

/-- R60, R71: a changed count forms a movement, for the watch unit and then the journal, before the level is handed on. -/
theorem State.plateauWork_moved (l : Lane) (hb : l.binding.baselineNeeded = false) (hc : l.work.count ≠ l.committed.count)
    {m : Movement} (hm : (s.putLane n l).formMovement n = m) :
    (s.putLane n l).plateauWork n =
      (((s.putLane n (l.commit l.committed.level)).watchEvaluate m).journalEntry m).handLevel n l.committed.level
        (l.commit l.committed.level).committed.level :=
  (State.plateauWork_ordinary l hb).trans (by simp only [if_neg hc, hm])

/-- The movement that a plateau forms, its kind in the order of R63 (R61). -/
theorem State.formMovement_putLane (s : State) (n : LaneId) (l : Lane) : (s.putLane n l).formMovement n =
    { tick := s.tick, lane := n, before := l.committed.count, after := l.work.count, delta := l.work.net - l.committed.net
      loose := !l.work.firm, merged := false, contributors := 1
      kind := if l.committed.recountDue then .recount
        else if l.work.count < l.committed.count then .withdraw
        else if (s.bay l.binding.bay).window ≠ none ∨ l.committed.carryOver = true then .replenish
        else .giveBack } := by
  rw [State.formMovement, State.lane_putLane_self, moveKind]
  simp only [State.windowOpen, State.bay_putLane, Bool.or_eq_true, Option.isSome_iff_ne_none, State.putLane_tick]

/-! ### The conversion that is a plateau (R38) -/

theorem Visits.makesPlateau {rd : Reading} (h : Visits s n) (hc : condition rd = .normal) (hl : (s.lane n).state = .moving)
    (hp : plateausAt (s.lane n) (rawValue rd) = true) : s.makesPlateau rd = true := by
  simp [State.makesPlateau, h.underVisit, hc, hl, hp]

theorem State.takeConversion_plateau {rd : Reading} (hc : condition rd = .normal) (hl : (s.lane n).state = .moving)
    (hp : plateausAt (s.lane n) (rawValue rd) = true) :
    s.takeConversion n rd = (s.putLane n { (s.lane n).followed (rawValue rd) with state := .stable }).plateau n :=
  (State.takeConversion_moving hl hc).trans (if_pos hp)
end

/-- The lane as the plateau logic meets it: STABLE, with its current values computed (R38, R42). -/
def Lane.settledAt (l : Lane) (f : Int) (calm : Nat) (net : Int) (count : Nat) (firm : Bool) : Lane :=
  { l with
    state := .stable
    work := { l.work with filtered := f, calm := calm, abnormalRun := 0, net := net, count := count, firm := firm } }

/-- Settles O52: the three paths of the plateau logic, and then zero tracking by its three outcomes. -/
theorem plateausCommit : Obligations.PlateausCommit := by
  intro s n rd r f calm hv hrd hst hf hjump hsettle old
  obtain ⟨hc, rfl⟩ := condition_of_normalReading hrd
  have hp := hf.plateausAt_iff.mpr ⟨hjump, hsettle⟩
  obtain ⟨net, count, firm, hest, hlane⟩ := hf.exists_followed
  obtain ⟨p, he⟩ := hv.exec_conversion rd
  rw [State.takeConversion_plateau hc hst hp, hlane] at he
  change exec _ s = .next { (s.putLane n (old.settledAt f calm net count firm)).plateau n with scan := p } at he
  refine ⟨_, (s.putLane n (old.settledAt f calm net count firm)).plateauWork n, _, net, count, firm, he,
    (exec_plateau (hv.makesPlateau hc hst hp)).trans he, hest, rfl,
    fun hsus => ?_, fun hsus => ⟨State.plateauWork_baseline (old.settledAt f calm net count firm),
      fun hbase => ⟨State.plateauWork_same (old.settledAt f calm net count firm) hbase, fun hne =>
        State.plateauWork_moved (old.settledAt f calm net count firm) hbase hne (State.formMovement_putLane s n _)⟩, ?_⟩⟩
  · rw [State.plateau_of_suspended (by rw [State.lane_putLane_self]; exact hsus)]
    rfl
  · rw [State.plateau_of_active (by rw [State.lane_putLane_self]; exact hsus)]
    obtain ⟨before, hk, hdev⟩ := State.exists_plateauWork s n (old.settledAt f calm net count firm)
    generalize (s.putLane n (old.settledAt f calm net count firm)).plateauWork n = u at hk hdev ⊢
    have htr : tracks (u.lane n) = true ↔ count = 0 ∧ firm = true ∧ 0 < old.weighing.trackStep := by
      rw [hk, tracks_iff]
      exact and_iff_right hsus
    refine ⟨fun hidle => by rw [State.track_idle (mt htr.mp hidle)], fun ht => ?_⟩
    obtain ⟨zero, drift, hstay, hmove, hend, hz⟩ := Lane.exists_tracked (u.lane n)
    have htrack := State.track_of_tracks (by rw [hk]; exact LaneState.noConfusion) (htr.mpr ht) hz
    rw [hk] at hstay hmove hend htrack
    refine ⟨zero, drift, hstay, hmove, hend, ?_⟩
    rw [htrack, hk, hdev]
    rfl

end Sys2Proof.Machine
end

section
/-! SUPPORT. The table of the levels by its rows, the law it keeps, and what a change between EMPTY and LOW hands on (O51). -/

namespace Sys2Proof.Machine

/-! ### The level of a count (R67) -/

section
variable {count low clear : Nat} {before : Level}

theorem levelOf_zero : levelOf 0 low clear before = .empty := rfl

theorem levelOf_of_le_low (h : 1 ≤ count) (hl : count ≤ low) : levelOf count low clear before = .low := by
  rw [levelOf.eq_def, if_neg (by omega), if_pos hl]

/-- Between the marks the level before decides. -/
theorem levelOf_between (hl : low < count) (hc : count < clear) :
    levelOf count low clear before = if before = .none ∨ before = .ok then .ok else .low := by
  rw [levelOf.eq_def, if_neg (by omega), if_neg (by omega), if_pos hc]
  cases before <;> rfl

theorem levelOf_of_clear_le (hm : low < clear) (hc : clear ≤ count) : levelOf count low clear before = .ok := by
  rw [levelOf.eq_def, if_neg (by omega), if_neg (by omega), if_neg (by omega)]

/-- The law of R67's table, by the four ranges a count can be in. -/
theorem levelOf_agrees (hm : low < clear) :
    levelOf count low clear before ≠ .none ∧ (levelOf count low clear before = .empty ↔ count = 0) ∧
      (levelOf count low clear before = .low → count < clear) ∧ (levelOf count low clear before = .ok → low < count) := by
  rcases Nat.eq_zero_or_pos count with rfl | hpos
  · simp [levelOf_zero]
  rcases Nat.lt_or_ge low count with hlow | hlow
  · rcases Nat.lt_or_ge count clear with hclear | hclear
    · rw [levelOf_between hlow hclear]
      split <;> simp [hlow, hclear, hpos.ne']
    · simp [levelOf_of_clear_le hm hclear, hlow, hpos.ne']
  · simp [levelOf_of_le_low hpos hlow, hlow.trans_lt hm, hpos.ne']

end

/-! ### A change from EMPTY to LOW (R72, R128) -/

section
variable {s : State} {n : LaneId}

theorem State.handLevel_empty_low_of_call {i : SlotId} {a : Call} (ha : s.callAt i = some a)
    (hk : a.lane = n ∧ a.cause = .restock) : s.handLevel n .empty .low = s :=
  if_pos (Option.isSome_iff_ne_none.mpr fun h => State.findCall_none.mp h i a ha hk)

theorem State.handLevel_empty_low_of_noCall (h : ∀ i a, s.callAt i = some a → ¬(a.lane = n ∧ a.cause = .restock)) :
    s.handLevel n .empty .low = s.assertSource n .restock (s.lane n).binding.lowClass :=
  if_neg (by simp [State.findCall_none.mpr h])

end

/-- Settles O51: the table row by row, and the hand-offs; only the one from EMPTY to LOW looks at the call table. -/
theorem levelsFollowTheMarks : Obligations.LevelsFollowTheMarks := by
  refine ⟨fun count low clear before hm => ⟨?zero, levelOf_of_le_low, levelOf_between, fun _ => levelOf_of_clear_le hm,
    levelOf_agrees hm⟩, fun s n before => ⟨?fromOk, rfl, ?existing, State.handLevel_empty_low_of_noCall, rfl, rfl,
    State.handLevel_same s n before⟩⟩
  case zero => rintro rfl; exact levelOf_zero
  case fromOk => rintro (rfl | rfl) <;> exact ⟨rfl, rfl, rfl⟩
  case existing => rintro ⟨i, a, ha, hk⟩; exact State.handLevel_empty_low_of_call ha hk

end Sys2Proof.Machine
end

section
/-! SUPPORT. The capture requests and SET_CALIBRATION: their checks in order, and what an accepted one does (O23, O24, O25). -/

namespace Sys2Proof.Machine

/-! ### A heard request, refused or accepted (R189) -/

/-- A heard request whose act refuses it is answered with the refusal. -/
theorem serve_refused {s : State} {h : Header} (hs : Hears s h) {p : List Byte} (hp : p.length ≤ 240) {kind : Nat} {ro : Bool}
    {act : State → Served} {st : Status} (ha : act (atHunt s) = (atHunt s).refuse st) :
    (.next (serve kind ro h p act s) : Out) = refused s h kind st := by
  rw [next_serve hs hp, ha, reply_refuse]
  rfl

/-- A heard request whose act accepts it is answered with its body. -/
theorem serve_accepted {s t : State} {h : Header} (hs : Hears s h) {p : List Byte} (hp : p.length ≤ 240) {kind : Nat} {ro : Bool}
    {act : State → Served} {body : List Byte} (ha : act (atHunt s) = t.accept body)
    (ht : t.link.unitAddress = s.link.unitAddress) :
    (.next (serve kind ro h p act s) : Out) = .next (answered s t h kind .ok body) := by
  rw [next_serve hs hp, ha, reply_accept ht]

/-! ### Signed fields written back (R191) -/

@[simp] theorem w32s_toInt (v : BitVec 32) : w32s v.toInt = w32 v := by rw [w32s, BitVec.ofInt_toInt]

theorem toNat_toInt_of_nonneg {v : BitVec 32} (h : 0 ≤ v.toInt) : v.toInt.toNat = v.toNat := by
  rw [BitVec.toInt_eq_toNat_of_lt (BitVec.toInt_pos_iff.mp h), Int.toNat_natCast]

theorem w32s_toNat {v : BitVec 32} (h : 0 ≤ v.toInt) : w32s (v.toInt.toNat : Int) = w32 v := by
  rw [Int.toNat_of_nonneg h, w32s_toInt]

/-! ### The slot of a lane (R77) -/

section
variable {s : State} {n : LaneId} {i : CaptureId}

theorem State.captureSlot_eq_some {c : Capture} (hi : s.capture i = some c) (hn : c.lane = n)
    (huniq : ∀ j d, s.capture j = some d → d.lane = n → j = i) : s.captureSlot n = some i := by
  cases e : s.captureSlot n with
  | none => exact absurd hn (State.captureSlot_none.mp e i c hi)
  | some j =>
    obtain ⟨d, hj, hd⟩ := State.captureSlot_some e
    rw [huniq j d hj hd]

theorem State.freeCapture_eq_some (hi : s.capture i = none) (hlow : ∀ j, j < i → s.capture j ≠ none) :
    s.freeCapture = some i :=
  find_finRange_eq_some (by simp [hi]) fun j hj => by simpa [Option.isNone_eq_false_iff, Option.isSome_iff_ne_none] using hlow j hj

end

/-! ### The requests with their lane and fields read (R78) -/

section
variable (s : State) (n : LaneId) (mass zero gain : BitVec 32)

/-- The checks of BEGIN_ZERO and BEGIN_SPAN on the lane, up to the one for FAULT (R78). -/
def captureChecks (k : Served) : Served :=
  unlessOff s n <| unlessCapture s n <| require s ((s.lane n).state != .fault) .wrongState k

theorem beginZero_lane : beginZero [w8 n] s = captureChecks s n (s.tryCapture n .zero 0) := withLane_w8 n _

theorem beginSpan_lane : beginSpan (w8 n :: w32 mass) s = captureChecks s n
    (require s (s.lane n).binding.suspended .wrongState <|
      require s (decide (100 ≤ mass.toInt) && decide (mass.toInt ≤ 2000000)) .badValue <| s.tryCapture n .span mass.toInt.toNat) := by
  rw [w32, beginSpan, withLane_w8, s32_w8]
  rfl

theorem cancelCapture_lane : cancelCapture [w8 n] s = unlessOff s n
    (match s.captureSlot n with
      | some i => match s.capture i with
        | some c => (s.endCapture i n .cancelled).accept [w8 n, w8 i, w8 c.kind.code]
        | none => s.refuse .wrongState
      | none => s.refuse .wrongState) := withLane_w8 n _

theorem setCalibration_lane (hsave : s.store.save ≠ .saving) : setCalibration (w8 n :: w32 zero ++ w32 gain) s =
    (unlessOff s n <| unlessCapture s n <| require s (calibrationInRange zero.toInt gain.toInt) .badValue <|
      (s.calibrate n zero.toInt gain.toInt.toNat).accept (w8 n :: w32 zero ++ w32 gain)) := by
  simp only [w32, List.cons_append, List.nil_append]
  rw [setCalibration, unlessSaving_idle hsave, withLane_w8, s32_w8, s32_w8, w32s_toInt, w32s_toInt]
  rfl

end

/-! ### The checks, passed and failed (R78) -/

section
variable {s : State} {n : LaneId} {k : Served}

theorem captureChecks_off (h : (s.lane n).state = .off) : captureChecks s n k = s.refuse .laneOff := unlessOff_off h

theorem captureChecks_capture (h : (s.lane n).state = .capture) : captureChecks s n k = s.refuse .laneBusy :=
  (unlessOff_bound (by simp [h])).trans (unlessCapture_capture h)

theorem captureChecks_fault (h : (s.lane n).state = .fault) : captureChecks s n k = s.refuse .wrongState :=
  (unlessOff_bound (by simp [h])).trans ((unlessCapture_free (by simp [h])).trans (require_false (by simp [h]) _))

theorem captureChecks_passed (h : (s.lane n).state = .moving ∨ (s.lane n).state = .stable) : captureChecks s n k = k := by
  have hne : (s.lane n).state ≠ .off ∧ (s.lane n).state ≠ .capture ∧ (s.lane n).state ≠ .fault := by
    rcases h with h | h <;> simp [h]
  obtain ⟨ho, hc, hf⟩ := hne
  exact (unlessOff_bound ho).trans ((unlessCapture_free hc).trans (require_true (bne_iff_ne.mpr hf) _))

theorem State.tryCapture_full (h : ∀ i, s.capture i ≠ none) (kind : CaptureKind) (mass : Nat) :
    s.tryCapture n kind mass = s.refuse .busy := by
  rw [State.tryCapture, State.freeCapture_none.mpr h]

theorem calibrationInRange_iff {zero gain : Int} : calibrationInRange zero gain = true ↔
    -8388608 ≤ zero ∧ zero ≤ 8388607 ∧ 1 ≤ gain ∧ gain ≤ 4194304 := by
  simp only [calibrationInRange, Bool.and_eq_true, decide_eq_true_eq, and_assoc]
  rfl

/-- BEGIN_ZERO past the checks on its lane (R78). -/
theorem beginZero_passed (h : (s.lane n).state = .moving ∨ (s.lane n).state = .stable) :
    beginZero [w8 n] s = s.tryCapture n .zero 0 := by
  rw [beginZero_lane, captureChecks_passed h]

section
variable {mass : BitVec 32}

theorem beginSpan_active (h : (s.lane n).state = .moving ∨ (s.lane n).state = .stable)
    (hp : (s.lane n).binding.suspended = false) : beginSpan (w8 n :: w32 mass) s = s.refuse .wrongState := by
  rw [beginSpan_lane, captureChecks_passed h, require_false hp]

variable (h : (s.lane n).state = .moving ∨ (s.lane n).state = .stable) (hp : (s.lane n).binding.suspended = true)
include h hp

theorem beginSpan_badMass (hm : mass.toInt < 100 ∨ 2000000 < mass.toInt) :
    beginSpan (w8 n :: w32 mass) s = s.refuse .badValue := by
  have hrange : (decide (100 ≤ mass.toInt) && decide (mass.toInt ≤ 2000000)) = false := by
    rw [Bool.and_eq_false_iff, decide_eq_false_iff_not, decide_eq_false_iff_not]
    omega
  rw [beginSpan_lane, captureChecks_passed h, require_true hp, require_false hrange]

/-- BEGIN_SPAN past the checks on its lane and its test mass (R78). -/
theorem beginSpan_passed (hm : 100 ≤ mass.toInt) (hm' : mass.toInt ≤ 2000000) :
    beginSpan (w8 n :: w32 mass) s = s.tryCapture n .span mass.toInt.toNat := by
  rw [beginSpan_lane, captureChecks_passed h, require_true hp, require_true (by simp [hm, hm'])]

end

theorem cancelCapture_idle (ho : (s.lane n).state ≠ .off) (h : ∀ i c, s.capture i = some c → c.lane ≠ n) :
    cancelCapture [w8 n] s = s.refuse .wrongState := by
  rw [cancelCapture_lane, unlessOff_bound ho, State.captureSlot_none.mpr h]

/-- CANCEL_CAPTURE of a lane whose slot is `i` (R87). -/
theorem cancelCapture_running {i : CaptureId} {c : Capture} (ho : (s.lane n).state ≠ .off) (hi : s.capture i = some c)
    (hn : c.lane = n) (huniq : ∀ j d, s.capture j = some d → d.lane = n → j = i) :
    cancelCapture [w8 n] s = (s.endCapture i n .cancelled).accept [w8 n, w8 i, w8 c.kind.code] := by
  rw [cancelCapture_lane, unlessOff_bound ho, State.captureSlot_eq_some hi hn huniq]
  simp only [hi]

section
variable {zero gain : BitVec 32} (hsave : s.store.save ≠ .saving)
include hsave

theorem setCalibration_off (ho : (s.lane n).state = .off) :
    setCalibration (w8 n :: w32 zero ++ w32 gain) s = s.refuse .laneOff := by
  rw [setCalibration_lane s n zero gain hsave, unlessOff_off ho]

theorem setCalibration_capture (hc : (s.lane n).state = .capture) :
    setCalibration (w8 n :: w32 zero ++ w32 gain) s = s.refuse .laneBusy := by
  rw [setCalibration_lane s n zero gain hsave, unlessOff_bound (by simp [hc]), unlessCapture_capture hc]

variable (ho : (s.lane n).state ≠ .off) (hc : (s.lane n).state ≠ .capture)
include ho hc

theorem setCalibration_badValue (h : calibrationInRange zero.toInt gain.toInt = false) :
    setCalibration (w8 n :: w32 zero ++ w32 gain) s = s.refuse .badValue := by
  rw [setCalibration_lane s n zero gain hsave, unlessOff_bound ho, unlessCapture_free hc, require_false h]

/-- SET_CALIBRATION past its checks (R78, R91). -/
theorem setCalibration_passed (h : calibrationInRange zero.toInt gain.toInt = true) :
    setCalibration (w8 n :: w32 zero ++ w32 gain) s =
      (s.calibrate n zero.toInt gain.toInt.toNat).accept (w8 n :: w32 zero ++ w32 gain) := by
  rw [setCalibration_lane s n zero gain hsave, unlessOff_bound ho, unlessCapture_free hc, require_true h]

end

/-- A lane number above 47 (R1). -/
theorem captureRequests_badLane {b : Byte} (hb : 47 < b.toNat) (mass zero gain : BitVec 32) :
    beginZero [b] s = s.refuse .badValue ∧ cancelCapture [b] s = s.refuse .badValue ∧
      beginSpan (b :: w32 mass) s = s.refuse .badValue ∧
      (s.store.save ≠ .saving → setCalibration (b :: w32 zero ++ w32 gain) s = s.refuse .badValue) :=
  ⟨withLane_refused hb _, withLane_refused hb _, withLane_refused hb _,
    fun hsave => (unlessSaving_idle hsave).trans (withLane_refused hb _)⟩

end

/-- Settles O23: each check in turn, the ones before it passed. -/
theorem captureRequestsAreCheckedInOrder : Obligations.CaptureRequestsAreCheckedInOrder := by
  intro s h b n mass zero gain hs
  have zeroRefused {b st} (e : beginZero [b] (atHunt s) = (atHunt s).refuse st) :
      exec (.beginZero h [b]) s = refused s h 32 st := serve_refused hs (by simp) e
  have spanRefused {b st} (e : beginSpan (b :: w32 mass) (atHunt s) = (atHunt s).refuse st) :
      exec (.beginSpan h (b :: w32 mass)) s = refused s h 33 st := serve_refused hs (by simp [w32]) e
  have cancelRefused {b st} (e : cancelCapture [b] (atHunt s) = (atHunt s).refuse st) :
      exec (.cancelCapture h [b]) s = refused s h 34 st := serve_refused hs (by simp) e
  have setRefused {b st} (e : setCalibration (b :: w32 zero ++ w32 gain) (atHunt s) = (atHunt s).refuse st) :
      exec (.setCalibration h (b :: w32 zero ++ w32 gain)) s = refused s h 35 st := serve_refused hs (by simp [w32]) e
  have zeroLane := beginZero_lane (atHunt s) n
  have spanLane := beginSpan_lane (atHunt s) n mass
  have cancelLane := cancelCapture_lane (atHunt s) n
  refine ⟨?badLane, ?off, ?capture, ?noSlot, ?fault, fun hl => ⟨?notSuspended, ?testMass, ?noFreeSlot⟩, ?calibration⟩
  case badLane =>
    intro hb
    obtain ⟨ez, ec, es, ek⟩ := captureRequests_badLane (s := atHunt s) hb mass zero gain
    exact ⟨zeroRefused ez, cancelRefused ec, spanRefused es, fun hsave => setRefused (ek hsave)⟩
  case off =>
    intro ho
    exact ⟨zeroRefused (zeroLane.trans (captureChecks_off ho)), cancelRefused (cancelLane.trans (unlessOff_off ho)),
      spanRefused (spanLane.trans (captureChecks_off ho)), fun hsave => setRefused (setCalibration_off hsave ho)⟩
  case capture =>
    intro hc
    exact ⟨zeroRefused (zeroLane.trans (captureChecks_capture hc)), spanRefused (spanLane.trans (captureChecks_capture hc)),
      fun hsave => setRefused (setCalibration_capture hsave hc)⟩
  case noSlot =>
    intro ho hi
    exact cancelRefused (cancelCapture_idle ho hi)
  case fault =>
    intro hf
    exact ⟨zeroRefused (zeroLane.trans (captureChecks_fault hf)), spanRefused (spanLane.trans (captureChecks_fault hf))⟩
  case notSuspended =>
    intro hp
    exact spanRefused (beginSpan_active hl hp)
  case testMass =>
    intro hp hm
    exact spanRefused (beginSpan_badMass hl hp hm)
  case noFreeSlot =>
    intro hi
    have full := State.tryCapture_full (s := atHunt s) (n := n) hi
    exact ⟨zeroRefused ((beginZero_passed (s := atHunt s) hl).trans (full _ _)),
      fun hp hm hm' => spanRefused ((beginSpan_passed (s := atHunt s) hl hp hm hm').trans (full _ _))⟩
  case calibration =>
    intro ho hc hsave hbad
    refine setRefused (setCalibration_badValue hsave ho hc ?_)
    rw [← Bool.not_eq_true, calibrationInRange_iff]
    omega

/-! ### Accepted capture requests (R79, R87, R91) -/

/-- An accepted capture takes the lowest FREE slot (R77, R79). -/
theorem State.tryCapture_free {s : State} {i : CaptureId} (hi : s.capture i = none) (hlow : ∀ j, j < i → s.capture j ≠ none)
    (n : LaneId) (kind : CaptureKind) (mass : Nat) :
    s.tryCapture n kind mass = (s.beginCapture i n kind mass).accept
      ([w8 n, w8 kind.code] ++ w32s mass ++ [w8 i] ++ w16 s.device.captureTimeout) := by
  rw [State.tryCapture, State.freeCapture_eq_some hi hlow]

/-- Settles O24: the slot and the lane that an accepted request writes, and its reply. -/
theorem capturesBeginAndCancel : Obligations.CapturesBeginAndCancel := by
  intro s h n i hs
  refine ⟨fun hl hi hlow => ⟨?zero, fun mass hp hm hm' => ?span⟩, fun c hl hi hn huniq => ?cancel⟩
  case zero =>
    have e := (beginZero_passed (s := atHunt s) hl).trans (State.tryCapture_free (s := atHunt s) hi hlow n .zero 0)
    exact (serve_accepted (ro := false) hs (by simp) e rfl).trans rfl
  case span =>
    have e := (beginSpan_passed (s := atHunt s) hl hp hm hm').trans (State.tryCapture_free (s := atHunt s) hi hlow n .span _)
    rw [w32s_toNat (by omega), toNat_toInt_of_nonneg (by omega)] at e
    exact (serve_accepted (ro := false) hs (by simp [w32]) e rfl).trans rfl
  case cancel =>
    have ho : (s.lane n).state ≠ .off := by simp [hl]
    have e := cancelCapture_running (s := atHunt s) ho hi hn huniq
    exact (serve_accepted (ro := false) hs (by simp) e rfl).trans rfl

/-- Settles O25: the lane is written, and drift that it clears is handed on as a clearance. -/
theorem setCalibrationWrites : Obligations.SetCalibrationWrites := by
  intro s h n zero gain hs hsave ho hc hz hz' hg hg' t
  have hcal : (atHunt s).calibrate n zero.toInt gain.toInt.toNat =
      if (s.lane n).work.drift = true ∧ (s.lane n).state ≠ .fault then t.clearSource n .fault else t := by
    rw [State.calibrate, toNat_toInt_of_nonneg (by omega)]
    exact if_congr (by rw [Bool.and_eq_true, bne_iff_ne]; rfl) rfl rfl
  have hunit : ((atHunt s).calibrate n zero.toInt gain.toInt.toNat).link.unitAddress = s.link.unitAddress := by
    rw [hcal]
    split
    · rw [State.touched_clearSource t n .fault]
      rfl
    · rfl
  rw [← hcal]
  exact serve_accepted hs (by simp [w32]) (ro := false)
    (setCalibration_passed (s := atHunt s) hsave ho hc (calibrationInRange_iff.mpr ⟨hz, hz', hg, hg'⟩)) hunit

end Sys2Proof.Machine
end

section
/-! SUPPORT. A NORMAL conversion of a lane in CAPTURE: the restart of the filter, the settling and the completion (O53). -/

namespace Sys2Proof.Machine

section
variable {s : State} {n : LaneId} {i : CaptureId} {c : Capture} {rd : Reading} {r f : Int} {calm : Nat}

/-! ### The row that names the conversion (R82, R85) -/

theorem exec_captureComplete (h : s.completesCapture rd = true) : exec (.captureComplete rd) s = exec (.conversion rd) s := by
  have e : exec (.captureComplete rd) s = .next (convertIf (s.completesCapture rd) rd s) := rfl
  rw [e, h]; rfl

theorem captureCalmReached_iff {l : Lane} : captureCalmReached l = true ↔ max l.weighing.settle 16 ≤ l.work.calm := by
  rw [captureCalmReached, decide_eq_true_eq]
  rfl

theorem Visits.completesCapture (h : Visits s n) (hc : condition rd = .normal) (hl : (s.lane n).state = .capture)
    (hslot : s.captureSlot n = some i) (hi : s.capture i = some c) (hp : c.restartPending = false)
    (hcalm : captureCalmReached ((s.lane n).filter (rawValue rd)) = true) : s.completesCapture rd = true := by
  simp [State.completesCapture, h.underVisit, hc, hl, hslot, hi, hp, hcalm]

/-! ### The conversion of a lane in CAPTURE (R81, R82) -/

theorem State.takeConversion_capture (hl : (s.lane n).state = .capture) (hc : condition rd = .normal)
    (hslot : s.captureSlot n = some i) (hi : s.capture i = some c) :
    s.takeConversion n rd = s.captureNormal n i c (rawValue rd) := by
  simp [State.takeConversion, hl, hc, hslot, hi]

theorem State.captureNormal_restarts (hp : c.restartPending = true) (r : Int) :
    s.captureNormal n i c r =
      (s.putCapture i (some { c with restartPending := false })).putLane n ((s.lane n).refilter r) := if_pos hp

theorem State.captureNormal_settles (hp : c.restartPending = false)
    (hcalm : ¬captureCalmReached ((s.lane n).filter r) = true) :
    s.captureNormal n i c r = s.putLane n ((s.lane n).filter r) := by
  rw [State.captureNormal, hp]
  exact if_neg hcalm

theorem State.captureNormal_completes (hp : c.restartPending = false) (hcalm : captureCalmReached ((s.lane n).filter r) = true) :
    s.captureNormal n i c r = (s.putLane n ((s.lane n).filter r)).completeCapture i n c := by
  rw [State.captureNormal, hp]
  exact if_pos hcalm

/-! ### The completion (R83 to R85) -/

theorem State.completeCapture_zero (hk : c.kind = .zero) (l : Lane) :
    (s.putLane n l).completeCapture i n c =
      if l.work.drift then ((s.putCapture i none).putLane n l.zeroed).clearSource n .fault
      else (s.putCapture i none).putLane n l.zeroed := by
  rw [State.completeCapture, hk]
  dsimp only
  rw [State.lane_putLane_self]
  exact congrArg (fun t => if l.work.drift then State.clearSource t n .fault else t)
    (State.putLane_putLane (s.putCapture i none) n l l.zeroed)

theorem State.completeCapture_span (hk : c.kind = .span) (l : Lane) :
    (s.putLane n l).completeCapture i n c = (s.putCapture i none).putLane n (l.spanned c.testMass) := by
  rw [State.completeCapture, hk]
  dsimp only
  rw [State.lane_putLane_self]
  exact State.putLane_putLane (s.putCapture i none) n _ _

/-- The gain of a span in the claim's terms (R84): an excursion of 1,000 or more, and a gain in its range. -/
theorem spanGain_eq (e : Int) (m : Nat) : spanGain e m =
    if 1000 ≤ e ∧ 1 ≤ ((m : Int) * 65536 + e / 2) / e ∧ ((m : Int) * 65536 + e / 2) / e ≤ 4194304 then
      some (((m : Int) * 65536 + e / 2) / e).toNat
    else none := by
  by_cases he : e < 1000
  · rw [spanGain, if_pos he, if_neg (by omega)]
  · obtain ⟨k, rfl⟩ := Int.eq_ofNat_of_zero_le (a := e) (by omega)
    have hg : ((m : Int) * 65536 + (k : Int) / 2) / k = ((m * 65536 + k / 2) / k : Nat) := by push_cast; rfl
    rw [spanGain, if_neg he, hg]
    dsimp only [Int.toNat_natCast]
    exact if_congr (by rw [Config.gainMax]; omega) rfl rfl

/-- The lane after a span with excursion `e` and computed gain `g`, done or rejected (R84, R85). -/
theorem Lane.exists_spanned (l : Lane) (m : Nat) {e g : Int} (he : e = l.work.filtered - l.calibration.zero)
    (hg : g = ((m : Int) * 65536 + e / 2) / e) : ∃ done : Bool, (done = true ↔ 1000 ≤ e ∧ 1 ≤ g ∧ g ≤ 4194304) ∧
      l.spanned m = { l with
        state := .stable, outcome := if done then .done else .rejected
        calibration := { l.calibration with gain := if done then g.toNat else l.calibration.gain } } := by
  have hgain := spanGain_eq e m
  rw [← hg] at hgain
  by_cases hd : 1000 ≤ e ∧ 1 ≤ g ∧ g ≤ 4194304
  · exact ⟨true, iff_of_true rfl hd, by rw [Lane.spanned, ← he, hgain, if_pos hd]; rfl⟩
  · exact ⟨false, iff_of_false Bool.false_ne_true hd, by rw [Lane.spanned, ← he, hgain, if_neg hd]; rfl⟩

end

/-- Settles O53: the first conversion restarts the filter; a later one runs it, and completes the capture once calm. -/
theorem capturesSettleAndComplete : Obligations.CapturesSettleAndComplete := by
  intro s n i c rd r f calm hv hrd hl hi hn huniq hf l
  obtain ⟨hc, rfl⟩ := condition_of_normalReading hrd
  obtain ⟨p, he⟩ := hv.exec_conversion rd
  have hslot := State.captureSlot_eq_some hi hn huniq
  rw [State.takeConversion_capture hl hc hslot hi] at he
  have hlane : l.filter (rawValue rd) = { l with work := { l.work with filtered := f, calm := calm, abnormalRun := 0 } } := by
    rw [Lane.filter, hf.filterResult_eq]
  have hreached : captureCalmReached (l.filter (rawValue rd)) = true ↔ max l.weighing.settle 16 ≤ calm := by
    rw [captureCalmReached_iff, hlane]
  refine ⟨_, he, fun hp => ?restart, fun hp => ⟨fun hcalm => ?settle, fun hcalm => ?complete⟩⟩
  case restart =>
    rw [State.captureNormal_restarts hp]
    rfl
  case settle =>
    rw [State.captureNormal_settles hp (mt hreached.mp (Nat.not_le.mpr hcalm)), hlane]
  case complete =>
    have hcomplete := State.captureNormal_completes (i := i) hp (hreached.mpr hcalm)
    refine ⟨(exec_captureComplete (hv.completesCapture hc hl hslot hi hp (hreached.mpr hcalm))).trans he,
      fun hk => ?_, fun hk => ?_⟩
    · rw [hcomplete, State.completeCapture_zero hk, hlane]
      rfl
    · obtain ⟨done, hdone, hspan⟩ := (l.filter (rawValue rd)).exists_spanned c.testMass rfl rfl
      rw [hcomplete, State.completeCapture_span hk, hspan]
      rw [hlane] at hdone ⊢
      exact ⟨done, hdone, rfl⟩

end Sys2Proof.Machine
end

section
/-! SUPPORT. The capture unit's tick, and what the other blocks' ticks leave of it: the slots and, carry-over aside, the lanes
(O44). -/

namespace Sys2Proof.Machine

/-! ### Lane records, carry-over aside (R174) -/

/-- The lane with carry-over clear: two lanes agree, carry-over aside, when these are equal. -/
def Lane.uncarried (l : Lane) : Lane :=
  { l with committed := { l.committed with carryOver := false } }

theorem Lane.eq_of_uncarried {l m : Lane} (h : m.uncarried = l.uncarried) :
    m = { l with committed := { l.committed with carryOver := m.committed.carryOver } } :=
  congrArg (fun k : Lane => { k with committed := { k.committed with carryOver := m.committed.carryOver } }) h

@[simp] theorem Lane.uncarried_carried (l : Lane) : l.carried.uncarried = l.uncarried := rfl

theorem Lane.uncarried_leaveCapture (l : Lane) (o : CaptureOutcome) :
    (l.leaveCapture o).uncarried = l.uncarried.leaveCapture o := rfl

theorem Lane.leaveCapture_leaveCapture (l : Lane) (o : CaptureOutcome) :
    (l.leaveCapture o).leaveCapture o = l.leaveCapture o := rfl

/-! ### The ticks of the call controller and of the bays (R153, R169 to R174) -/

/-- `t` has the slots of `s` and, carry-over aside, its lanes. -/
structure CarryOverOnly (s t : State) : Prop where
  captures : t.captures = s.captures
  lane     : ∀ n, (t.lane n).uncarried = (s.lane n).uncarried

theorem CarryOverOnly.of_tables {s t : State} (hc : t.captures = s.captures) (hl : t.lanes = s.lanes) : CarryOverOnly s t :=
  ⟨hc, fun n => by rw [State.lane, hl, ← State.lane]⟩

theorem CarryOverOnly.refl (s : State) : CarryOverOnly s s := .of_tables rfl rfl

theorem CarryOverOnly.trans {s t u : State} (h : CarryOverOnly s t) (k : CarryOverOnly t u) : CarryOverOnly s u :=
  ⟨k.captures.trans h.captures, fun n => (k.lane n).trans (h.lane n)⟩

theorem CarryOverOnly.putBay (s : State) (b : BayId) (r : Bay) : CarryOverOnly s (s.putBay b r) := .of_tables rfl rfl

theorem State.lane_closeBayWindow (s : State) (b : BayId) (n : LaneId) :
    (s.closeBayWindow b).lane n = if (s.lane n).marksOnClose b then (s.lane n).carried else s.lane n :=
  mapTable_get s.lanes (fun _ l => if l.marksOnClose b then l.carried else l) n

theorem CarryOverOnly.closeBayWindow (s : State) (b : BayId) : CarryOverOnly s (s.closeBayWindow b) := by
  refine ⟨by rw [State.closeBayWindow, State.putBay_captures], fun n => ?_⟩
  rw [State.lane_closeBayWindow]
  split
  · exact Lane.uncarried_carried _
  · rfl

theorem CarryOverOnly.windowCountdown (s : State) (b : BayId) : CarryOverOnly s (s.windowCountdown b) := by
  unfold State.windowCountdown
  split
  · split
    · exact .closeBayWindow s b
    · exact .putBay s b _
  · exact .refl s

theorem CarryOverOnly.keyStep (s : State) (b : BayId) (down : Bool) : CarryOverOnly s (s.keyStep b down) := by
  unfold State.keyStep
  dsimp only
  split
  · have key : ∀ r, CarryOverOnly s (s.putBay b r) := CarryOverOnly.putBay s b
    split
    case h_4 =>
      split
      · exact (key _).trans (.closeBayWindow _ b)
      · exact key _
    case h_5 => exact (key _).trans (.putBay _ b _)
    all_goals exact key _
  · exact .refl s

theorem CarryOverOnly.overrideCountdown (s : State) (b : BayId) : CarryOverOnly s (s.overrideCountdown b) := by
  unfold State.overrideCountdown
  split
  · split
    · exact .putBay s b _
    · exact .refl s
  · exact .refl s

theorem CarryOverOnly.bayTick (keys : BitVec 6) (s : State) (b : BayId) : CarryOverOnly s (s.bayTick keys b) :=
  (((CarryOverOnly.windowCountdown s b).trans (.keyStep _ b _)).trans (.putBay _ b _)).trans (.overrideCountdown _ b)

theorem CarryOverOnly.baysTick (s : State) (keys : BitVec 6) : CarryOverOnly s (s.baysTick keys) :=
  List.foldlRecOn _ _ (.refl s) fun _ h b _ => h.trans (.bayTick keys _ b)

theorem CarryOverOnly.callsTick (s : State) : CarryOverOnly s s.callsTick := .of_tables rfl rfl

/-! ### The tick of the capture unit (R86) -/

/-- A RUNNING slot after a tick: the timeout counts down, and at 0 the slot is FREE. -/
def Capture.ticked (c : Capture) : Option Capture :=
  if c.remaining ≤ 1 then none else some { c with remaining := c.remaining - 1 }

/-- Does slot `i` run for lane `n` with a timeout that the next tick brings to 0? -/
def State.timesOut (s : State) (n : LaneId) (i : CaptureId) : Bool :=
  (s.capture i).any fun c => c.lane == n && decide (c.remaining ≤ 1)

/-- The lane after the tick of the slots listed. -/
def State.laneTimed (s : State) (l : List CaptureId) (n : LaneId) : Lane :=
  if l.any (s.timesOut n) then (s.lane n).leaveCapture .timeout else s.lane n

theorem State.capture_captureTick (s : State) (i j : CaptureId) :
    (s.captureTick i).capture j = if j = i then (s.capture i).bind Capture.ticked else s.capture j := by
  unfold State.captureTick
  split
  · next c hc =>
    rw [hc, Option.bind_some, Capture.ticked]
    split
    · exact State.capture_putCapture _ i j none
    · exact State.capture_putCapture _ i j _
  · next hc =>
    split
    · next e => rw [e, hc]; rfl
    · rfl

theorem State.lane_captureTick (s : State) (i : CaptureId) (n : LaneId) :
    (s.captureTick i).lane n = if s.timesOut n i then (s.lane n).leaveCapture .timeout else s.lane n := by
  unfold State.captureTick State.timesOut
  split
  · next c hc =>
    by_cases hr : c.remaining ≤ 1
    · by_cases hn : n = c.lane
      · subst hn
        simp [hc, hr, State.endCapture]
      · simp [hc, hr, State.endCapture, hn, Ne.symm hn]
    · simp [hc, hr]
  · next hc => simp [hc]

theorem State.capture_foldl_captureTick {l : List CaptureId} (hl : l.Nodup) (s : State) (j : CaptureId) :
    (l.foldl State.captureTick s).capture j = if j ∈ l then (s.capture j).bind Capture.ticked else s.capture j := by
  induction l generalizing s with
  | nil => rfl
  | cons i l ih =>
    obtain ⟨hi, hl⟩ := List.nodup_cons.mp hl
    rw [List.foldl_cons, ih hl, State.capture_captureTick]
    by_cases hj : j = i
    · subst hj
      simp [hi]
    · simp [hj]

theorem State.lane_foldl_captureTick {l : List CaptureId} (hl : l.Nodup) (s : State) (n : LaneId) :
    (l.foldl State.captureTick s).lane n = s.laneTimed l n := by
  induction l generalizing s with
  | nil => rfl
  | cons i l ih =>
    obtain ⟨hi, hl⟩ := List.nodup_cons.mp hl
    have hrest : l.any ((s.captureTick i).timesOut n) = l.any (s.timesOut n) := by
      rw [Bool.eq_iff_iff, List.any_eq_true, List.any_eq_true]
      refine exists_congr fun j => and_congr_right fun hj => ?_
      have hji : j ≠ i := fun e => hi (e ▸ hj)
      rw [State.timesOut, State.capture_captureTick, if_neg hji, ← State.timesOut]
    rw [List.foldl_cons, ih hl, State.laneTimed, State.laneTimed, hrest, State.lane_captureTick, List.any_cons]
    cases s.timesOut n i
    · rfl
    · cases l.any (s.timesOut n)
      · rfl
      · exact Lane.leaveCapture_leaveCapture _ _

/-- `t` is `s` after a tick of the capture unit, its other fields and carry-over aside. -/
structure CapturesTicked (s t : State) : Prop where
  capture : ∀ i, t.capture i = (s.capture i).bind Capture.ticked
  lane    : ∀ n, (t.lane n).uncarried = (s.laneTimed (List.finRange 4) n).uncarried

theorem CapturesTicked.capturesTick (s : State) : CapturesTicked s s.capturesTick where
  capture i := (State.capture_foldl_captureTick (List.nodup_finRange 4) s i).trans (if_pos (List.mem_finRange i))
  lane n := congrArg Lane.uncarried (State.lane_foldl_captureTick (List.nodup_finRange 4) s n)

theorem CarryOverOnly.uncarried_laneTimed {s t : State} (h : CarryOverOnly s t) (l : List CaptureId) (n : LaneId) :
    (t.laneTimed l n).uncarried = (s.laneTimed l n).uncarried := by
  have hout : t.timesOut n = s.timesOut n := by
    funext i
    rw [State.timesOut, State.capture, h.captures]
    rfl
  unfold State.laneTimed
  rw [hout]
  split
  · rw [Lane.uncarried_leaveCapture, h.lane, Lane.uncarried_leaveCapture]
  · exact h.lane n

theorem CapturesTicked.between {s t u v : State} (h : CarryOverOnly s t) (hc : CapturesTicked t u) (k : CarryOverOnly u v) :
    CapturesTicked s v where
  capture i := by
    rw [State.capture, k.captures, ← State.capture, hc.capture, State.capture, h.captures, ← State.capture]
  lane n := (k.lane n).trans ((hc.lane n).trans (h.uncarried_laneTimed _ n))

/-- R153: whatever the order of the blocks at a tick, the capture unit ticks once. -/
theorem CapturesTicked.ticked (s : State) (ti : TickInput) : CapturesTicked s (s.ticked ti) := by
  have clock : CarryOverOnly s { s with tick := s.tick + 1 } := .of_tables rfl rfl
  have bays : ∀ u : State, CarryOverOnly u (u.baysTick ti.keysDown) := fun u => .baysTick u _
  unfold State.ticked
  dsimp only
  cases ti.baysBeforeCaptures <;> cases ti.baysBeforeCalls <;> simp only [if_true, if_false, Bool.false_eq_true]
  · exact .between clock (.capturesTick _) ((CarryOverOnly.callsTick _).trans (bays _))
  · exact .between clock (.capturesTick _) ((bays _).trans (.callsTick _))
  · exact .between ((clock.trans (.callsTick _)).trans (bays _)) (.capturesTick _) (.refl _)
  · exact .between (clock.trans (bays _)) (.capturesTick _) (.callsTick _)

/-! ### TICK and CAPTURE_TIMEOUT (R86, R153) -/

theorem exec_tick {s : State} (h : s.operating = true) (ti : TickInput) : exec (.tick ti) s = .next (s.ticked ti) := by
  have e : exec (.tick ti) s = .next (tickIf true ti s) := rfl
  rw [e, tickIf, h]
  rfl

theorem exec_captureTimeout {s : State} {i : CaptureId} (h : s.captureDue i = true) (ti : TickInput) :
    exec (.captureTimeout i ti) s = exec (.tick ti) s := by
  have e : exec (.captureTimeout i ti) s = .next (tickIf (s.captureDue i) ti s) := rfl
  rw [e, h]
  rfl

/-- Settles O44: the capture unit ticks once, and the rest of the tick writes only carry-over in what it holds. -/
theorem ticksRunTheCaptureTimeouts : Obligations.TicksRunTheCaptureTimeouts := by
  intro s ti hs _
  have ht := CapturesTicked.ticked s ti
  refine ⟨_, exec_tick hs ti, fun i hi => ?free, fun i c hi => ⟨fun v hv => ?counts, fun hone => ?timeout⟩, fun n hn => ?other⟩
  case free => rw [ht.capture, hi]; rfl
  case counts =>
    rw [ht.capture, hi, Option.bind_some, Capture.ticked, if_neg (by omega), hv]
    rfl
  case timeout =>
    have hdue : s.captureDue i = true := by simp [State.captureDue, hi, hone]
    have hout : (List.finRange 4).any (s.timesOut c.lane) = true :=
      List.any_eq_true.mpr ⟨i, List.mem_finRange i, by simp [State.timesOut, hi, hone]⟩
    have hlane := ht.lane c.lane
    rw [State.laneTimed, if_pos hout] at hlane
    refine ⟨?_, (exec_captureTimeout hdue ti).trans (exec_tick hs ti), Lane.eq_of_uncarried hlane⟩
    rw [ht.capture, hi, Option.bind_some, Capture.ticked, if_pos (by omega)]
  case other =>
    have hout : ¬(List.finRange 4).any (s.timesOut n) = true := by
      intro h
      obtain ⟨i, -, hi⟩ := List.any_eq_true.mp h
      obtain ⟨c, hc, hout⟩ := (Option.any_eq_true _ _).mp hi
      rw [Bool.and_eq_true, beq_iff_eq, decide_eq_true_eq] at hout
      obtain ⟨hcn, hlow⟩ := hout
      exact absurd (hn i c hc hcn) (by omega)
    have hlane := ht.lane n
    rw [State.laneTimed, if_neg hout] at hlane
    exact Lane.eq_of_uncarried hlane

end Sys2Proof.Machine
end

section
/-! SUPPORT. SET_DEVICE: its settings read, clamped and refused, and the offer of a changed fault class (O11). -/

namespace Sys2Proof.Machine

/-! ### Fields and named values (R191, R193) -/

theorem w16_bytes (a b : Byte) : w16 (a.toNat * 256 + b.toNat) = [a, b] := by
  have ha : w8 ((a.toNat * 256 + b.toNat) / 256) = a := by
    apply BitVec.eq_of_toNat_eq
    have := b.isLt
    simp only [w8, BitVec.toNat_ofNat]
    omega
  have hb : w8 (a.toNat * 256 + b.toNat) = b := by
    apply BitVec.eq_of_toNat_eq
    simp only [w8, BitVec.toNat_ofNat]
    omega
  rw [w16, ha, hb]

theorem w8_of_toNat {b : Byte} {n : Nat} (h : b.toNat = n) : w8 n = b := by rw [← h, w8_toNat]

@[simp] theorem conversionRateOf_perSecond (rate : ConversionRate) : conversionRateOf rate.perSecond = some rate := by
  cases rate <;> rfl

theorem conversionRateOf_none {n : Nat} (h : n ∉ [100, 200, 400, 800]) : conversionRateOf n = none := by
  simp only [List.mem_cons, List.not_mem_nil, or_false, not_or] at h
  obtain ⟨h1, h2, h4, h8⟩ := h
  rw [conversionRateOf, if_neg h1, if_neg h2, if_neg h4, if_neg h8]

theorem named_linkRate {b : Byte} {lr : LinkRate} (h : b.toNat = lr.code) : named LinkRate.all b = some lr := by
  rw [named, h]
  cases lr <;> rfl

theorem named_linkRate_none {b : Byte} (h : 2 < b.toNat) : named LinkRate.all b = none :=
  List.getElem?_eq_none h

/-! ### The settings that a payload carries (R90, R101, R193) -/

/-- The settings that SET_DEVICE takes, the capture timeout and the watermark clamped (R90, R101, R193). -/
def DeviceSettings.taken (rate : ConversionRate) (fc uc : ClassId) (timeout mark : Nat) (lr : LinkRate) : DeviceSettings :=
  { conversionRate := rate, faultClass := fc, urgentLimit := uc, captureTimeout := max 50 (min 3000 timeout)
    watermark := max 1 (min 128 mark), linkRate := lr }

section
variable {r1 r0 f u t1 t0 m l : Byte}

section
variable {rate : ConversionRate} {fc uc : ClassId} {lr : LinkRate} (hr : r1.toNat * 256 + r0.toNat = rate.perSecond)
  (hf : f.toNat = fc.val) (hu : u.toNat = uc.val) (hl : l.toNat = lr.code)
include hr hf hu hl

theorem deviceFields_some :
    deviceFields r1 r0 f u t1 t0 m l = some (.taken rate fc uc (t1.toNat * 256 + t0.toNat) m.toNat lr) := by
  have hrate : conversionRateOf (u16 r1 r0) = some rate := by rw [u16, hr, conversionRateOf_perSecond]
  rw [deviceFields, hrate, index_some.mpr hf, index_some.mpr hu, named_linkRate hl]
  rfl

/-- The settings as taken, in the bytes of the request but for the two clamped (R193). -/
theorem deviceBytes_taken (timeout mark : Nat) : deviceBytes (.taken rate fc uc timeout mark lr) =
    [r1, r0, f, u] ++ w16 (max 50 (min 3000 timeout)) ++ [w8 (max 1 (min 128 mark)), l] := by
  simp only [deviceBytes, DeviceSettings.taken]
  rw [← hr, w16_bytes, w8_of_toNat hf, w8_of_toNat hu, w8_of_toNat hl]
  rfl

end

theorem deviceFields_none
    (h : r1.toNat * 256 + r0.toNat ∉ [100, 200, 400, 800] ∨ 7 < f.toNat ∨ 7 < u.toNat ∨ 2 < l.toNat) :
    deviceFields r1 r0 f u t1 t0 m l = none := by
  unfold deviceFields
  rcases h with h | h | h | h
  · simp [u16, conversionRateOf_none h]
  · simp [index_ge (n := 8) h]
  · simp [index_ge (n := 8) h]
  · simp [named_linkRate_none h]

end

/-! ### The offer of a changed fault class (R123) -/

/-- Every FAULT call is offered the class, and nothing else is written (R123, R128). -/
theorem State.exists_offerFaultClass (s : State) (k : ClassId) : ∃ v : Vector CallEntry 32,
    s.offerFaultClass k = { s with calls := v } ∧
      ∀ i : SlotId, v[i] =
        { s.entry i with call := (s.callAt i).map fun c => if c.cause = .fault then c.offered k else c } := by
  refine ⟨mapTable s.calls _, rfl, fun i => ?_⟩
  rw [mapTable_get, State.callAt, State.entry]
  generalize s.calls[i] = e
  obtain ⟨g, call⟩ := e
  cases call with
  | none => rfl
  | some c => by_cases hc : c.cause = .fault <;> simp [hc]

/-- The settings taken from a request to this unit: only the settings and the FAULT calls are written (R123, R193). -/
theorem State.exists_takeDevice (s : State) (d : DeviceSettings) : ∃ v : Vector CallEntry 32,
    s.takeDevice false d = { s with calls := v, device := d } ∧
      ∀ i : SlotId, v[i] = { s.entry i with
        call := if d.faultClass = s.device.faultClass then s.callAt i
          else (s.callAt i).map fun c => if c.cause = .fault then c.offered d.faultClass else c } := by
  have e : s.takeDevice false d =
      { (if d.faultClass = s.device.faultClass then s else s.offerFaultClass d.faultClass) with device := d } := rfl
  by_cases h : d.faultClass = s.device.faultClass
  · rw [if_pos h] at e
    exact ⟨s.calls, e, fun i => by rw [if_pos h]; rfl⟩
  · obtain ⟨v, hv, hcalls⟩ := s.exists_offerFaultClass d.faultClass
    rw [if_neg h, hv] at e
    exact ⟨v, e, fun i => by rw [if_neg h]; exact hcalls i⟩

/-! ### SET_DEVICE (R193) -/

theorem exec_setDevice {s : State} {h : Header} (hs : Hears s h) (p : List Byte) :
    exec (.setDevice h p) s = .next (serve 4 false h p (setDevice false p) s) := by
  obtain ⟨-, -, h0, hmine⟩ := hs
  have e : (s.addressed h == Addressed.broadcast) = false := by
    rw [State.addressed, if_neg h0, if_pos hmine]
    rfl
  exact congrArg (fun b => (.next (serve 4 false h p (setDevice b p) s) : Out)) e

section
variable {s : State} (hsave : s.store.save ≠ .saving) {r1 r0 f u t1 t0 m l : Byte}
include hsave

theorem setDevice_taken {d : DeviceSettings} (hd : deviceFields r1 r0 f u t1 t0 m l = some d) :
    setDevice false [r1, r0, f, u, t1, t0, m, l] s = (s.takeDevice false d).accept (deviceBytes d) := by
  rw [setDevice, unlessSaving_idle hsave, hd]

theorem setDevice_refused (hd : deviceFields r1 r0 f u t1 t0 m l = none) :
    setDevice false [r1, r0, f, u, t1, t0, m, l] s = s.refuse .badValue := by
  rw [setDevice, unlessSaving_idle hsave, hd]

end

/-- Settles O11: the settings read and clamped, the calls offered a changed fault class, and the values refused. -/
theorem setDeviceTakesAllSettings : Obligations.SetDeviceTakesAllSettings := by
  intro s h r1 r0 f u t1 t0 m l hs hsave
  rw [exec_setDevice hs]
  refine ⟨fun rate fc uc lr hr hf hu hl => ?taken, fun hbad => ?refused⟩
  case taken =>
    have hset := setDevice_taken (s := atHunt s) hsave (deviceFields_some (t1 := t1) (t0 := t0) (m := m) hr hf hu hl)
    obtain ⟨v, hv, hcalls⟩ := (atHunt s).exists_takeDevice (.taken rate fc uc (t1.toNat * 256 + t0.toNat) m.toNat lr)
    rw [hv, deviceBytes_taken hr hf hu hl] at hset
    refine ⟨{ s with calls := v, device := _ }, (serve_accepted hs (by simp) hset rfl).trans rfl, rfl, fun i => ?_⟩
    have hgeneration := congrArg CallEntry.generation (hcalls i)
    have hcall := congrArg CallEntry.call (hcalls i)
    exact ⟨hgeneration, hcall⟩
  case refused =>
    exact serve_refused hs (by simp) (setDevice_refused (s := atHunt s) hsave (deviceFields_none hbad))

end Sys2Proof.Machine
end

section
/-! SUPPORT. The journal and its hold slots: a movement's entry, the merging of a held record, and the drain
(O28, O29, O30). -/

namespace Sys2Proof.Machine

/-! ### A movement reaches the journal (R93 to R98, R102) -/

theorem State.append_eq (s : State) (m : Movement) : s.append m =
    { s with
      journal := s.journal ++ [m]
      attention := { s.attention with
        journal := s.attention.journal || decide (s.journal.length + 1 = s.device.watermark) } } := by
  unfold State.append State.noteJournalEntry
  by_cases h : s.journal.length + 1 = s.device.watermark
  · simp [h, State.notify]
  · simp [h]

@[simp] theorem State.append_journal (s : State) (m : Movement) : (s.append m).journal = s.journal ++ [m] := by
  rw [State.append_eq]

theorem State.journalEntry_below {s : State} (h : s.journal.length < 128) (m : Movement) : s.journalEntry m = s.append m :=
  if_pos h

theorem State.journalEntry_holds {s : State} {m : Movement} (h : 128 ≤ s.journal.length) (hn : s.held m.lane = none) :
    s.journalEntry m = s.hold m := by
  have hfull : ¬s.journal.length < Config.journalCapacity := Nat.not_lt.mpr h
  rw [State.journalEntry, if_neg hfull, hn]

theorem State.journalEntry_merges {s : State} {m old : Movement} (h : 128 ≤ s.journal.length)
    (hn : s.held m.lane = some old) : s.journalEntry m = s.putHeld m.lane (merge old m) := by
  have hfull : ¬s.journal.length < Config.journalCapacity := Nat.not_lt.mpr h
  rw [State.journalEntry, if_neg hfull, hn]

/-! ### The merged record (R97, R98) -/

theorem saturateDelta_eq (x : Int) :
    saturateDelta x = if x < -8000000 then -8000000 else if 8000000 < x then 8000000 else x := by
  unfold saturateDelta Config.deltaLimit
  split
  · omega
  · split <;> omega

section
variable {old new : Movement}

theorem merge_discarded (h : new.after = old.before) : merge old new = none := if_pos h

/-- The record that a merge leaves when the counts differ (R97, R98). -/
def mergedRecord (old new : Movement) : Movement :=
  { tick := old.tick, lane := old.lane, kind := mergedKind old new, before := old.before, after := new.after,
    delta := saturateDelta (old.delta + new.delta), loose := old.loose || new.loose, merged := true,
    contributors := min 255 (old.contributors + new.contributors) }

theorem merge_kept (h : new.after ≠ old.before) : merge old new = some (mergedRecord old new) := if_neg h

theorem mergedKind_recount (h : old.kind = .recount ∨ new.kind = .recount) : mergedKind old new = .recount := if_pos h

section
variable (ho : old.kind ≠ .recount) (hn : new.kind ≠ .recount)
include ho hn

theorem mergedKind_lower (h : new.after < old.before) : mergedKind old new = .withdraw := by
  rw [mergedKind, if_neg (not_or.mpr ⟨ho, hn⟩), if_pos h]

theorem mergedKind_higher (h : old.before < new.after) (hk : new.kind ≠ .withdraw) : mergedKind old new = new.kind := by
  have hnew : new.kind = .giveBack ∨ new.kind = .replenish := by
    cases e : new.kind <;> simp_all
  rw [mergedKind, if_neg (not_or.mpr ⟨ho, hn⟩), if_neg (Nat.lt_asymm h), if_pos hnew]

theorem mergedKind_higher_withdraw (h : old.before < new.after) (hk : new.kind = .withdraw) :
    mergedKind old new = if old.kind = .replenish then .replenish else .giveBack := by
  rw [mergedKind, if_neg (not_or.mpr ⟨ho, hn⟩), if_neg (Nat.lt_asymm h), if_neg (by simp [hk])]
end

/-- R98: a merged record keeps the relations between its kind and its counts, whatever the records merged. -/
theorem recordLaw_mergedRecord (h : new.after ≠ old.before) : RecordLaw (mergedRecord old new) := by
  change new.after ≠ old.before ∧ (mergedKind old new = .withdraw → new.after < old.before) ∧
    (mergedKind old new = .giveBack ∨ mergedKind old new = .replenish → old.before < new.after)
  refine ⟨h, ?_⟩
  by_cases hr : old.kind = .recount ∨ new.kind = .recount
  · simp [mergedKind_recount hr]
  · obtain ⟨ho, hn⟩ := not_or.mp hr
    rcases Nat.lt_or_gt_of_ne h with hlow | hhigh
    · simpa [mergedKind_lower ho hn hlow] using hlow
    · refine ⟨fun hw => ?_, fun _ => hhigh⟩
      by_cases hk : new.kind = .withdraw
      · rw [mergedKind_higher_withdraw ho hn hhigh hk] at hw
        split at hw <;> cases hw
      · exact absurd ((mergedKind_higher ho hn hhigh hk).symm.trans hw) hk
end

/-- Settles O30: the entry by the journal's length and the hold slot, and the merged record by the table of kinds. -/
theorem movementsEnterOrMerge : Obligations.MovementsEnterOrMerge := by
  refine ⟨fun s m => ⟨fun h => ?_, fun h hn => ?_, fun h old hn => ?_⟩, fun old new => ⟨merge_discarded, fun h => ?_⟩⟩
  · rw [State.journalEntry_below h, State.append_eq]
  · rw [State.journalEntry_holds h.ge hn]
    rfl
  · rw [State.journalEntry_merges h.ge hn]
    rfl
  · exact ⟨_, merge_kept h, rfl, rfl, rfl, rfl, saturateDelta_eq _, rfl, rfl, rfl, mergedKind_recount,
      fun ho hn => ⟨mergedKind_lower ho hn, mergedKind_higher ho hn, mergedKind_higher_withdraw ho hn⟩,
      recordLaw_mergedRecord h⟩

/-! ### READ_MOVES and CLEAR_JOURNAL (R104, R106) -/

theorem State.heldCount_eq (s : State) : s.heldCount = (List.finRange 48).countP fun n => (s.held n).isSome := by
  have h : s.holds.toList = (List.finRange 48).map s.held := by
    apply List.ext_getElem <;> simp [State.held]
  rw [State.heldCount, h, List.countP_map]
  rfl

theorem take_min_min_length {α : Type} (l : List α) (i j : Nat) : l.take (min i (min j l.length)) = l.take (min i j) := by
  rw [← Nat.min_assoc, ← List.take_eq_take_min]

/-- Settles O28: the report reads the journal's head, and the clearance empties journal and hold slots alone. -/
theorem readMovesAndClearJournal : Obligations.ReadMovesAndClearJournal := by
  intro s h hs
  refine ⟨fun wanted => ?_, ?_⟩
  · refine serve_accepted (t := atHunt s) hs (by simp) ?_ rfl
    have hbody : readMoves [wanted] (atHunt s) = (atHunt s).accept
        (w8 (s.journal.take (min wanted.toNat 8)).length :: w8 s.journal.length ::
          (s.journal.take (min wanted.toNat 8)).flatMap movementRecord) := rfl
    rw [hbody, take_min_min_length, List.length_take, Nat.min_assoc, List.flatMap_def]
    rfl
  · refine serve_accepted (t := (atHunt s).clearJournal) hs (by simp) ?_ rfl
    rw [clearJournal, State.heldCount_eq]
    rfl

/-! ### The drain's choice (R99) -/

/-- The better of the drain's choice so far and the record of one more lane, judged by age (R99). -/
def State.olderHeld (s : State) (best : Option (LaneId × Movement)) (n : LaneId) : Option (LaneId × Movement) :=
  match s.held n with
  | some m => match best with
    | some (k, b) => if s.age m.tick > s.age b.tick then some (n, m) else some (k, b)
    | none => some (n, m)
  | none => best

theorem State.oldestHeld_eq (s : State) : s.oldestHeld = (List.finRange 48).foldl s.olderHeld none := rfl

/-- The drain's choice among the lanes listed: none when no slot of theirs is occupied, otherwise the record drained first. -/
def State.ChosenAmong (s : State) (l : List LaneId) : Option (LaneId × Movement) → Prop
  | none => ∀ n ∈ l, s.held n = none
  | some (n, a) => n ∈ l ∧ s.held n = some a ∧ ∀ m ∈ l, m ≠ n → ∀ b, s.held m = some b → drainsBefore s n a m b

theorem State.ChosenAmong.snoc {s : State} {l : List LaneId} {best : Option (LaneId × Movement)} {x : LaneId}
    (h : s.ChosenAmong l best) (hx : ∀ n ∈ l, n < x) : s.ChosenAmong (l ++ [x]) (s.olderHeld best x) := by
  unfold State.olderHeld
  cases hm : s.held x with
  | none =>
    cases best with
    | none => simpa [State.ChosenAmong, or_imp, forall_and, hm] using h
    | some p =>
      obtain ⟨hn, ha, hfirst⟩ := h
      refine ⟨by simp [hn], ha, fun m hml hne b hb => hfirst m ?_ hne b hb⟩
      rcases List.mem_append.mp hml with h | h
      · exact h
      · rw [List.mem_singleton.mp h, hm] at hb
        cases hb
  | some m =>
    cases best with
    | none =>
      refine ⟨by simp, hm, fun k hk hne b hb => ?_⟩
      rcases List.mem_append.mp hk with hk | hk
      · rw [h k hk] at hb
        cases hb
      · exact absurd (List.mem_singleton.mp hk) hne
    | some p =>
      obtain ⟨k, a⟩ := p
      obtain ⟨hk, ha, hfirst⟩ := h
      simp only [gt_iff_lt, State.age_eq_judgedAge]
      split
      · next hold =>
        refine ⟨by simp, hm, fun j hj hne b hb => .inl ?_⟩
        rcases List.mem_append.mp hj with hj | hj
        · by_cases e : j = k
          · subst e
            rw [ha] at hb
            cases hb
            exact hold
          · have := hfirst j hj e b hb
            omega
        · exact absurd (List.mem_singleton.mp hj) hne
      · next hold =>
        refine ⟨by simp [hk], ha, fun j hj hne b hb => ?_⟩
        rcases List.mem_append.mp hj with hj | hj
        · exact hfirst j hj hne b hb
        · rw [List.mem_singleton] at hj
          subst hj
          rw [hm] at hb
          cases hb
          have := hx k hk
          rcases Int.lt_or_eq_of_le (Int.not_lt.mp hold) with h | h
          · exact .inl h
          · exact .inr ⟨h, this⟩

theorem State.chosenAmong_foldl (s : State) {l : List LaneId} (hl : l.Pairwise (· < ·)) :
    s.ChosenAmong l (l.foldl s.olderHeld none) := by
  induction l using List.reverseRecOn with
  | nil => simp [State.ChosenAmong]
  | append_singleton l x ih =>
    obtain ⟨hl, -, hx⟩ := List.pairwise_append.mp hl
    rw [List.foldl_append]
    exact (ih hl).snoc fun n hn => hx n hn x (List.mem_singleton.mpr rfl)

theorem State.chosenAmong_oldestHeld (s : State) : s.ChosenAmong (List.finRange 48) s.oldestHeld := by
  rw [State.oldestHeld_eq]
  exact s.chosenAmong_foldl (List.pairwise_lt_finRange 48)

/-- R99: the drain's choice is the oldest held record, and of equally old ones that of the lowest lane. -/
theorem State.oldestHeld_some {s : State} {n : LaneId} {a : Movement} (h : s.oldestHeld = some (n, a)) :
    s.held n = some a ∧ ∀ m b, m ≠ n → s.held m = some b → drainsBefore s n a m b := by
  have hc := s.chosenAmong_oldestHeld
  rw [h] at hc
  obtain ⟨-, ha, hfirst⟩ := hc
  exact ⟨ha, fun m b hne hb => hfirst m (List.mem_finRange m) hne b hb⟩

theorem State.oldestHeld_none {s : State} (h : s.oldestHeld = none) (n : LaneId) : s.held n = none := by
  have hc := s.chosenAmong_oldestHeld
  rw [h] at hc
  exact hc n (List.mem_finRange n)

/-! ### The drain (R99, R102) -/

theorem State.drainOne_some {s t : State} (h : s.drainOne = some t) :
    s.journal.length < 128 ∧ ∃ n a, s.oldestHeld = some (n, a) ∧ t = (s.putHeld n none).append a := by
  unfold State.drainOne at h
  split at h
  · next hlen =>
    split at h
    · next n a ho =>
      cases h
      exact ⟨hlen, n, a, ho, rfl⟩
    · cases h
  · cases h

/-- R99: the drain ends at a full journal or with every hold slot empty. -/
theorem State.drainOne_none {s : State} (h : s.drainOne = none) : 128 ≤ s.journal.length ∨ ∀ n, s.held n = none := by
  unfold State.drainOne at h
  split at h
  · split at h
    · cases h
    · next ho => exact .inr (State.oldestHeld_none ho)
  · next hlen => exact .inl (Nat.not_lt.mp hlen)

/-- `t` is `s` after the records held for the lanes `d` have joined the journal's tail in that order (R99, R102). -/
structure Drained (s t : State) (d : List LaneId) : Prop where
  touched   : JournalTouched s t
  journal   : t.journal = s.journal ++ d.filterMap s.held
  held      : ∀ n, t.held n = if n ∈ d then none else s.held n
  attention : t.attention = { s.attention with
    journal := s.attention.journal ||
      decide (s.journal.length < s.device.watermark ∧ s.device.watermark ≤ t.journal.length) }
  nodup     : d.Nodup
  occupied  : ∀ n ∈ d, (s.held n).isSome = true
  ordered   : d.Pairwise fun n m => ∀ a b, s.held n = some a → s.held m = some b → drainsBefore s n a m b
  ahead     : ∀ n ∈ d, ∀ m a b, s.held n = some a → t.held m = some b → drainsBefore s n a m b

theorem Drained.refl (s : State) : Drained s s [] where
  touched := .refl s
  journal := by simp
  held := by simp
  attention := by
    have : ¬(s.journal.length < s.device.watermark ∧ s.device.watermark ≤ s.journal.length) := by omega
    simp [this]
  nodup := .nil
  occupied := by simp
  ordered := .nil
  ahead := by simp

/-- The JOURNAL reason over the first record drained and the rest: the count reaches the watermark at one of them. -/
theorem decide_watermark_step {c w e : Nat} (set : Bool) (h : c + 1 ≤ e) :
    ((set || decide (c + 1 = w)) || decide (c + 1 < w ∧ w ≤ e)) = (set || decide (c < w ∧ w ≤ e)) := by
  rw [Bool.or_assoc, ← Bool.decide_or]
  exact congrArg _ (decide_eq_decide.mpr (by omega))

theorem Drained.cons {s t : State} {n : LaneId} {a : Movement} {d : List LaneId} (ho : s.oldestHeld = some (n, a))
    (h : Drained ((s.putHeld n none).append a) t d) : Drained s t (n :: d) := by
  obtain ⟨ha, hfirst⟩ := State.oldestHeld_some ho
  have hu := State.append_eq (s.putHeld n none) a
  have hheld : ∀ k, ((s.putHeld n none).append a).held k = if k = n then none else s.held k := fun k => by
    rw [State.held_append, State.held_putHeld]
  generalize (s.putHeld n none).append a = u at h hu hheld
  have htick : u.tick = s.tick := by rw [hu]; rfl
  have hbefore : ∀ k x m y, drainsBefore u k x m y = drainsBefore s k x m y := fun k x m y => by
    simp only [drainsBefore, judgedAge, htick]
  have hnd : n ∉ d := fun hn => by simpa [hheld] using h.occupied n hn
  have hsame : ∀ k ∈ d, u.held k = s.held k := fun k hk => by
    have hne : k ≠ n := fun e => hnd (e ▸ hk)
    rw [hheld, if_neg hne]
  have hjournal : t.journal = s.journal ++ (n :: d).filterMap s.held := by
    rw [h.journal, List.filterMap_congr hsame, List.filterMap_cons_some ha, hu, List.append_assoc]
    rfl
  refine ⟨?touched, hjournal, fun k => ?held, ?attention, ?nodup, ?occupied, ?ordered, ?ahead⟩
  case touched => exact JournalTouched.trans (by rw [hu]; rfl) h.touched
  case held =>
    rw [h.held, hheld]
    by_cases e : k = n <;> simp [e]
  case attention =>
    have hattention : u.attention = { s.attention with
        journal := s.attention.journal || decide (s.journal.length + 1 = s.device.watermark) } := by rw [hu]; rfl
    have hdevice : u.device = s.device := by rw [hu]; rfl
    have hcount : u.journal.length = s.journal.length + 1 := by rw [hu]; exact List.length_append
    have hlen : s.journal.length + 1 ≤ t.journal.length := by
      rw [h.journal, List.length_append, hcount]
      exact Nat.le_add_right _ _
    rw [h.attention, hattention, hdevice, hcount]
    exact congrArg (fun set => { s.attention with journal := set }) (decide_watermark_step _ hlen)
  case nodup => exact List.nodup_cons.mpr ⟨hnd, h.nodup⟩
  case occupied =>
    rintro k hk
    rcases List.mem_cons.mp hk with rfl | hk
    · simp [ha]
    · rw [← hsame k hk]
      exact h.occupied k hk
  case ordered =>
    refine List.pairwise_cons.mpr ⟨fun m hm x y hx hy => ?_, h.ordered.imp_of_mem fun {k m} hk hm hkm x y hx hy => ?_⟩
    · rw [ha] at hx
      cases hx
      exact hfirst m y (fun e => hnd (e ▸ hm)) hy
    · rw [← hbefore]
      exact hkm x y (by rwa [hsame k hk]) (by rwa [hsame m hm])
  case ahead =>
    intro k hk m x y hx hy
    rcases List.mem_cons.mp hk with rfl | hk
    · rw [ha] at hx
      cases hx
      rw [h.held, hheld] at hy
      split at hy
      · cases hy
      · split at hy
        · cases hy
        · next hne => exact hfirst m y hne hy
    · rw [← hbefore]
      exact h.ahead k hk m x y (by rwa [hsame k hk]) hy

theorem State.exists_drained_drainUpTo (s : State) (fuel : Nat) :
    ∃ d, Drained s (s.drainUpTo fuel) d ∧ ((s.drainUpTo fuel).drainOne = none ∨ d.length = fuel) := by
  induction fuel generalizing s with
  | zero => exact ⟨[], .refl s, .inr rfl⟩
  | succ fuel ih =>
    unfold State.drainUpTo
    split
    · next t ht =>
      obtain ⟨-, n, a, ho, rfl⟩ := State.drainOne_some ht
      obtain ⟨d, hd, hend⟩ := ih ((s.putHeld n none).append a)
      exact ⟨n :: d, hd.cons ho, hend.imp_right (congrArg (· + 1))⟩
    · next ht => exact ⟨[], .refl s, .inl ht⟩

theorem State.length_drainUpTo_le {s : State} (h : s.journal.length ≤ 128) (fuel : Nat) :
    (s.drainUpTo fuel).journal.length ≤ 128 := by
  induction fuel generalizing s with
  | zero => exact h
  | succ fuel ih =>
    unfold State.drainUpTo
    split
    · next t ht =>
      obtain ⟨hlen, n, a, -, rfl⟩ := State.drainOne_some ht
      exact ih (by simpa using hlen)
    · exact h

/-- R99: 48 moves are enough, since each empties a hold slot of its own. -/
theorem State.exists_drained_drain {s : State} (h : s.journal.length ≤ 128) :
    ∃ d, Drained s s.drain d ∧ (s.drain.journal.length = 128 ∨ ∀ n, s.drain.held n = none) := by
  obtain ⟨d, hd, hend⟩ := s.exists_drained_drainUpTo 48
  refine ⟨d, hd, ?_⟩
  rcases hend with hend | hlen
  · exact (State.drainOne_none hend).imp_left fun hfull => Nat.le_antisymm (State.length_drainUpTo_le h 48) hfull
  · have hall : ∀ n, n ∈ d := by
      have hcard : d.toFinset = Finset.univ := by
        rw [← Finset.card_eq_iff_eq_univ, List.toFinset_card_of_nodup hd.nodup, hlen, Fintype.card_fin]
      intro n
      rw [← List.mem_toFinset, hcard]
      exact Finset.mem_univ n
    exact .inr fun n => (hd.held n).trans (if_pos (hall n))

/-! ### REMOVE_MOVES (R105) -/

theorem State.removeHead_none {s : State} {k : Nat} (h : min k s.journal.length = 0) : s.removeHead k = s := if_pos h

theorem State.removeHead_some {s : State} {k : Nat} (h : 0 < min k s.journal.length) :
    s.removeHead k = State.drain { s with journal := s.journal.drop k } := if_neg h.ne'

/-- R105: what the removal leaves, and the drain that follows a removal of at least one record. -/
theorem State.exists_drained_removeHead {s : State} (h : s.journal.length ≤ 128) (k : Nat) :
    ∃ d, Drained { s with journal := s.journal.drop k } (s.removeHead k) d ∧ (min k s.journal.length = 0 → d = []) ∧
      (0 < min k s.journal.length → (s.removeHead k).journal.length = 128 ∨ ∀ n, (s.removeHead k).held n = none) := by
  rcases Nat.eq_zero_or_pos (min k s.journal.length) with hk | hk
  · have hdrop : s.journal.drop k = s.journal := by
      rcases Nat.min_eq_zero_iff.mp hk with rfl | hnil
      · rfl
      · simp [List.length_eq_zero_iff.mp hnil]
    rw [State.removeHead_none hk, hdrop]
    exact ⟨[], .refl s, fun _ => rfl, fun hpos => absurd hk hpos.ne'⟩
  · rw [State.removeHead_some hk]
    obtain ⟨d, hd, hend⟩ := State.exists_drained_drain (s := { s with journal := s.journal.drop k })
      (by rw [List.length_drop]; exact (Nat.sub_le _ _).trans h)
    exact ⟨d, hd, fun h0 => absurd h0 hk.ne', fun _ => hend⟩

theorem State.length_removeHead_le {s : State} (h : s.journal.length ≤ 128) (k : Nat) :
    (s.removeHead k).journal.length ≤ 128 := by
  unfold State.removeHead
  split
  · exact h
  · exact State.length_drainUpTo_le (by rw [List.length_drop]; exact (Nat.sub_le _ _).trans h) 48

/-- Settles O29: the head removed, then the drain's records in its order. -/
theorem removeMovesDrainsTheHolds : Obligations.RemoveMovesDrainsTheHolds := by
  intro s h number hs hlaw k
  obtain ⟨d, hd, hnone, hend⟩ := State.exists_drained_removeHead (s := atHunt s) hlaw.1 number.toNat
  have hframe := hd.touched
  have hattention := hd.attention
  have hbody : removeMoves [number] (atHunt s) = ((atHunt s).removeHead number.toNat).accept
      [w8 k, w8 ((atHunt s).removeHead number.toNat).journal.length, w8 ((atHunt s).removeHead number.toNat).heldCount] := rfl
  generalize (atHunt s).removeHead number.toNat = u at hd hend hframe hattention hbody
  have hlink : u.link = (atHunt s).link := by rw [hframe]
  refine ⟨{ u with link := s.link }, d, ?reply, ?frame, ?journal, hd.nodup, hd.occupied, hd.held, hnone, hend, hd.ordered,
    hd.ahead⟩
  case reply =>
    rw [State.heldCount_eq] at hbody
    refine (serve_accepted hs (by simp) hbody (by rw [hlink]; rfl)).trans ?_
    simp only [answered, hlink]
    rfl
  case frame =>
    have hlen : (s.journal.drop number.toNat).length = s.journal.length - k := by
      rw [List.length_drop]
      omega
    rw [← hlen]
    conv_lhs => rw [hframe, hattention]
    rfl
  case journal =>
    have hdrop : s.journal.drop number.toNat = s.journal.drop k := List.drop_eq_drop_min
    rw [← hdrop]
    exact hd.journal

end Sys2Proof.Machine
end

section
/-! SUPPORT. The laws of the journal, the link and the store: what they read of the state, and the blocks that leave it alone
(O56). -/

namespace Sys2Proof.Machine

/-! ### What the laws read -/

/-- What the laws of the journal, the link and the store read of the state. -/
structure Books where
  journal        : List Movement
  holds          : Vector (Option Movement) 48
  store          : Store
  receiver       : Receiver
  reply          : Option Reply
  restartPending : Bool

def State.books (s : State) : Books :=
  { journal := s.journal, holds := s.holds, store := s.store, receiver := s.link.receiver, reply := s.link.reply,
    restartPending := s.link.restartPending }

/-- R93 and R98: the two laws of the journal, which a step keeps together. -/
abbrev RecordsSound (s : State) : Prop :=
  JournalLaw s ∧ RecordsLaw s

/-- What every command keeps of the laws over the journal, the link and the store. -/
structure KeepsBooks (s t : State) : Prop where
  records : RecordsSound s → RecordsSound t
  reply   : ReplyLaw s → ReplyLaw t
  save    : SaveLaw s → SaveLaw t

theorem KeepsBooks.refl (s : State) : KeepsBooks s s := ⟨id, id, id⟩

theorem KeepsBooks.trans {s t u : State} (h : KeepsBooks s t) (k : KeepsBooks t u) : KeepsBooks s u :=
  ⟨k.records ∘ h.records, k.reply ∘ h.reply, k.save ∘ h.save⟩

theorem recordsSound_congr {s t : State} (hj : t.journal = s.journal) (hh : t.holds = s.holds) :
    RecordsSound s → RecordsSound t := by
  simp only [RecordsSound, JournalLaw, RecordsLaw, State.held, hj, hh, imp_self]

theorem replyLaw_congr {s t : State} (hr : t.link.receiver = s.link.receiver) (hy : t.link.reply = s.link.reply)
    (hp : t.link.restartPending = s.link.restartPending) : ReplyLaw s → ReplyLaw t := by
  simp only [ReplyLaw, hr, hy, hp, imp_self]

theorem saveLaw_congr {s t : State} (hs : t.store = s.store) : SaveLaw s → SaveLaw t := by
  simp only [SaveLaw, hs, imp_self]

theorem KeepsBooks.of_books {s t : State} (h : t.books = s.books) : KeepsBooks s t :=
  ⟨recordsSound_congr (congrArg Books.journal h) (congrArg Books.holds h),
    replyLaw_congr (congrArg Books.receiver h) (congrArg Books.reply h) (congrArg Books.restartPending h),
    saveLaw_congr (congrArg Books.store h)⟩

/-- The journal's operations leave the link and the store alone. -/
theorem KeepsBooks.of_journal {s t : State} (h : JournalTouched s t) (hr : RecordsSound s → RecordsSound t) :
    KeepsBooks s t := by
  have hlink : t.link = s.link := by rw [h]
  have hstore : t.store = s.store := by rw [h]
  exact ⟨hr, replyLaw_congr (by rw [hlink]) (by rw [hlink]) (by rw [hlink]), saveLaw_congr hstore⟩

/-! ### The operations that leave all of it alone -/

theorem CallsOnly.books {s t : State} (h : CallsOnly s t) : t.books = s.books := by
  rw [h]
  rfl

section
variable (s : State)

/-- Tables, settings, the clock and the pins that the laws do not read, rewritten whole. -/
theorem State.books_withTables (pw : Power) (a : Attention) (tk : Tick) (l : Vector Lane 48) (w : Vector WatchRule 8)
    (c : Vector CallEntry 32) (b : Vector Bay 6) :
    State.books { s with power := pw, attention := a, tick := tk, lanes := l, rules := w, calls := c, bays := b } = s.books :=
  rfl

@[simp] theorem State.books_putLane (n : LaneId) (l : Lane) : (s.putLane n l).books = s.books := rfl

@[simp] theorem State.books_putCapture (i : CaptureId) (c : Option Capture) : (s.putCapture i c).books = s.books := rfl

@[simp] theorem State.books_putBay (b : BayId) (r : Bay) : (s.putBay b r).books = s.books := rfl

@[simp] theorem State.books_notify (f : Attention → Attention) : (s.notify f).books = s.books := rfl

@[simp] theorem State.books_assertSource (n : LaneId) (c : Cause) (k : ClassId) : (s.assertSource n c k).books = s.books :=
  (s.touched_assertSource n c k).books

@[simp] theorem State.books_clearSource (n : LaneId) (c : Cause) : (s.clearSource n c).books = s.books :=
  (s.touched_clearSource n c).books

@[simp] theorem State.books_handLevel (n : LaneId) (a b : Level) : (s.handLevel n a b).books = s.books :=
  (s.touched_handLevel n a b).books

@[simp] theorem State.books_handFault (n : LaneId) (b : Bool) : (s.handFault n b).books = s.books :=
  (s.touched_handFault n b).books

@[simp] theorem State.books_sweep (l : List LaneId) : (s.sweep l).books = s.books :=
  (s.touched_sweep l).books

theorem State.books_watchEvaluate (m : Movement) : (s.watchEvaluate m).books = s.books := by
  unfold State.watchEvaluate
  dsimp only
  split
  · rw [State.books_assertSource]
    rfl
  · rfl

/-! ### Captures, faults and plateaus without a movement (R46 to R52, R58, R81 to R88) -/

theorem State.books_track (n : LaneId) : (s.track n).books = s.books := by
  unfold State.track
  split
  · rw [State.books_handFault, State.books_putLane]
  · rfl

theorem State.books_baseline (n : LaneId) : (s.baseline n).books = s.books := by
  unfold State.baseline
  dsimp only
  split
  · rw [State.books_sweep, State.books_handLevel, State.books_putLane]
  · rw [State.books_handLevel, State.books_putLane]

theorem State.books_abortCapture (n : LaneId) : (s.abortCapture n).books = s.books := by
  unfold State.abortCapture
  split
  · rw [State.books_putLane, State.books_putCapture]
  · rfl

theorem State.books_faultEntry (n : LaneId) (c : Condition) : (s.faultEntry n c).books = s.books := by
  unfold State.faultEntry
  rw [State.books_assertSource, State.books_notify, State.books_abortCapture, State.books_putLane]

theorem State.books_abnormalConversion (n : LaneId) (c : Condition) : (s.abnormalConversion n c).books = s.books := by
  unfold State.abnormalConversion
  dsimp only
  split
  · rfl
  · rw [State.books_faultEntry, State.books_putLane]

theorem State.books_faultRecovery (n : LaneId) (r : Int) : (s.faultRecovery n r).books = s.books := by
  unfold State.faultRecovery
  dsimp only
  split
  · rfl
  · rw [State.books_clearSource, State.books_putLane]

theorem State.books_completeCapture (i : CaptureId) (n : LaneId) (c : Capture) :
    (s.completeCapture i n c).books = s.books := by
  unfold State.completeCapture
  split
  · dsimp only
    split
    · rw [State.books_clearSource, State.books_putLane, State.books_putCapture]
    · rfl
  · rfl

theorem State.books_captureNormal (n : LaneId) (i : CaptureId) (c : Capture) (r : Int) :
    (s.captureNormal n i c r).books = s.books := by
  unfold State.captureNormal
  dsimp only
  split
  · rfl
  · split
    · rw [State.books_completeCapture, State.books_putLane]
    · rfl

/-! ### The tick (R153, R169) -/

theorem State.books_foldl {α : Type} {f : State → α → State} (h : ∀ u a, (f u a).books = u.books) (l : List α) :
    (l.foldl f s).books = s.books :=
  List.foldlRecOn (motive := fun u : State => u.books = s.books) l f rfl fun u hu a _ => (h u a).trans hu

theorem State.books_captureTick (i : CaptureId) : (s.captureTick i).books = s.books := by
  unfold State.captureTick
  split
  · split <;> rfl
  · rfl

@[simp] theorem State.books_capturesTick : s.capturesTick.books = s.books :=
  s.books_foldl State.books_captureTick _

@[simp] theorem State.books_callsTick : s.callsTick.books = s.books :=
  s.books_withTables _ _ _ _ _ _ _

@[simp] theorem State.books_closeBayWindow (b : BayId) : (s.closeBayWindow b).books = s.books := by
  unfold State.closeBayWindow
  rw [State.books_putBay]
  exact s.books_withTables _ _ _ _ _ _ _

@[simp] theorem State.books_openBayWindow (b : BayId) (ticks : Nat) : (s.openBayWindow b ticks).books = s.books := rfl

theorem State.books_windowCountdown (b : BayId) : (s.windowCountdown b).books = s.books := by
  unfold State.windowCountdown
  split
  · split
    · exact s.books_closeBayWindow b
    · exact s.books_openBayWindow b _
  · rfl

theorem State.books_keyStep (b : BayId) (down : Bool) : (s.keyStep b down).books = s.books := by
  unfold State.keyStep
  dsimp only
  split
  · split
    case h_4 =>
      split
      · rw [State.books_closeBayWindow, State.books_putBay]
      · rfl
    all_goals rfl
  · rfl

theorem State.books_overrideCountdown (b : BayId) : (s.overrideCountdown b).books = s.books := by
  unfold State.overrideCountdown
  split
  · split <;> rfl
  · rfl

theorem State.books_bayTick (keys : BitVec 6) (b : BayId) : (s.bayTick keys b).books = s.books := by
  unfold State.bayTick State.lampStep
  rw [State.books_overrideCountdown, State.books_putBay, State.books_keyStep, State.books_windowCountdown]

@[simp] theorem State.books_baysTick (keys : BitVec 6) : (s.baysTick keys).books = s.books :=
  s.books_foldl (fun u b => u.books_bayTick keys b) _

/-- R153: no block's tick touches the journal, the link or the store, in whatever order the blocks tick. -/
theorem State.books_ticked (t : TickInput) : (s.ticked t).books = s.books := by
  have clock : State.books { s with tick := s.tick + 1 } = s.books := s.books_withTables _ _ _ _ _ _ _
  unfold State.ticked
  generalize ({ s with tick := s.tick + 1 } : State) = u at clock ⊢
  cases t.baysBeforeCaptures <;> cases t.baysBeforeCalls <;> simpa using clock

end

end Sys2Proof.Machine
end

section
/-! SUPPORT. The journal's records through conversions, restart and the store's events (O56). -/

namespace Sys2Proof.Machine

/-! ### The journal's operations (R93 to R99, R105, R106) -/

/-- A record of the slot's lane enters a hold slot of a full journal, or the slot is emptied. -/
theorem RecordsSound.putHeld {s : State} (h : RecordsSound s) (hfull : s.journal.length = 128) {n : LaneId}
    {x : Option Movement} (hx : ∀ m, x = some m → m.lane = n ∧ RecordLaw m) : RecordsSound (s.putHeld n x) := by
  obtain ⟨⟨-, hslots⟩, hrecords, hholds⟩ := h
  have key : ∀ k m, (s.putHeld n x).held k = some m → m.lane = k ∧ RecordLaw m := fun k m hm => by
    rw [State.held_putHeld] at hm
    split at hm
    · next e =>
      subst e
      exact hx m hm
    · obtain ⟨-, hlane⟩ := hslots k m hm
      exact ⟨hlane, hholds k m hm⟩
  exact ⟨⟨hfull.le, fun k m hm => ⟨hfull, (key k m hm).1⟩⟩, hrecords, fun k m hm => (key k m hm).2⟩

theorem RecordsSound.append {s : State} (h : RecordsSound s) (hlen : s.journal.length < 128) {m : Movement}
    (hm : RecordLaw m) : RecordsSound (s.append m) := by
  obtain ⟨⟨-, hslots⟩, hrecords, hholds⟩ := h
  have hempty : ∀ k a, (s.append m).held k ≠ some a := fun k a ha => by
    rw [State.held_append] at ha
    exact hlen.ne (hslots k a ha).1
  refine ⟨⟨by simpa using hlen, fun k a ha => absurd ha (hempty k a)⟩, fun a ha => ?_, fun k a ha => absurd ha (hempty k a)⟩
  rw [State.append_journal, List.mem_append, List.mem_singleton] at ha
  rcases ha with ha | rfl
  · exact hrecords a ha
  · exact hm

/-- R95 to R98: a movement whose counts agree with its kind enters, is held or is merged. -/
theorem RecordsSound.journalEntry {s : State} (h : RecordsSound s) {m : Movement} (hm : RecordLaw m) :
    RecordsSound (s.journalEntry m) := by
  obtain ⟨⟨hlen, hslots⟩, -, -⟩ := id h
  rcases Nat.lt_or_eq_of_le hlen with hlow | hfull
  · rw [State.journalEntry_below hlow]
    exact h.append hlow hm
  · cases hheld : s.held m.lane with
    | none =>
      rw [State.journalEntry_holds hfull.ge hheld]
      have hput := h.putHeld hfull (n := m.lane) (x := some m) fun a ha => by cases ha; exact ⟨rfl, hm⟩
      exact recordsSound_congr rfl rfl hput
    | some old =>
      rw [State.journalEntry_merges hfull.ge hheld]
      refine h.putHeld hfull fun a ha => ?_
      by_cases heq : m.after = old.before
      · rw [merge_discarded heq] at ha
        cases ha
      · rw [merge_kept heq] at ha
        cases ha
        exact ⟨(hslots _ _ hheld).2, recordLaw_mergedRecord heq⟩

/-- R99 and R105: the drain fills the journal before it leaves a record in a hold slot. -/
theorem RecordsSound.removeHead {s : State} (h : RecordsSound s) (k : Nat) : RecordsSound (s.removeHead k) := by
  obtain ⟨⟨hlen, hslots⟩, hrecords, hholds⟩ := id h
  rcases Nat.eq_zero_or_pos (min k s.journal.length) with hk | hk
  · rw [State.removeHead_none hk]
    exact h
  · obtain ⟨d, hd, -, hend⟩ := State.exists_drained_removeHead hlen k
    have hbound := State.length_removeHead_le hlen k
    generalize s.removeHead k = t at hd hend hbound ⊢
    have held : ∀ n m, t.held n = some m → s.held n = some m := fun n m hm => by
      rw [hd.held] at hm
      split at hm
      · cases hm
      · exact hm
    refine ⟨⟨hbound, fun n m hm => ⟨?full, (hslots n m (held n m hm)).2⟩⟩, fun m hm => ?record,
      fun n m hm => hholds n m (held n m hm)⟩
    case full =>
      refine (hend hk).resolve_right fun hnone => ?_
      rw [hnone n] at hm
      cases hm
    case record =>
      rw [hd.journal, List.mem_append] at hm
      rcases hm with hm | hm
      · exact hrecords m (List.mem_of_mem_drop hm)
      · obtain ⟨n, -, hn⟩ := List.mem_filterMap.mp hm
        exact hholds n m hn

/-- An empty journal with empty hold slots (R106, R108). -/
theorem recordsSound_empty {s : State} (hj : s.journal = []) (hh : ∀ n, s.held n = none) : RecordsSound s := by
  simp [RecordsSound, JournalLaw, RecordsLaw, hj, hh]

theorem KeepsBooks.removeHead (s : State) (k : Nat) : KeepsBooks s (s.removeHead k) :=
  .of_journal (s.journal_removeHead k) fun h => h.removeHead k

theorem KeepsBooks.clearJournal (s : State) : KeepsBooks s s.clearJournal :=
  .of_journal rfl fun _ => recordsSound_empty rfl fun n => by simp [State.clearJournal, State.held]

/-! ### Conversions (R33, R55 to R63) -/

/-- R63: the kind of a movement as the plateau logic forms it agrees with its counts. -/
theorem State.recordLaw_formMovement {s : State} {n : LaneId} (h : (s.lane n).work.count ≠ (s.lane n).committed.count) :
    RecordLaw (s.formMovement n) := by
  refine ⟨h, fun hk => ?_, fun hk => ?_⟩
  · simp only [State.formMovement, moveKind] at hk
    split at hk
    · cases hk
    · split at hk
      · assumption
      · split at hk <;> cases hk
  · simp only [State.formMovement, moveKind] at hk
    split at hk
    · simp at hk
    · split at hk
      · simp at hk
      · next hle => exact Nat.lt_of_le_of_ne (Nat.not_lt.mp hle) h.symm

theorem KeepsBooks.ordinary (s : State) (n : LaneId) : KeepsBooks s (s.ordinary n) := by
  have commit : ∀ l, KeepsBooks s (s.putLane n l) := fun l => .of_books (s.books_putLane n l)
  unfold State.ordinary
  dsimp only
  refine KeepsBooks.trans ?_ (.of_books (State.books_handLevel _ _ _ _))
  split
  · exact commit _
  · next hne =>
    have hm : RecordLaw (s.formMovement n) := State.recordLaw_formMovement hne
    have watch := fun l => (commit l).trans (.of_books (State.books_watchEvaluate _ (s.formMovement n)))
    exact (watch _).trans (.of_journal (State.journal_entry _ _) fun h => h.journalEntry hm)

theorem KeepsBooks.plateau (s : State) (n : LaneId) : KeepsBooks s (s.plateau n) := by
  have track : ∀ u : State, KeepsBooks u (u.track n) := fun u => .of_books (u.books_track n)
  unfold State.plateau
  split
  · exact .refl s
  · split
    · exact KeepsBooks.trans (.of_books (s.books_baseline n)) (track _)
    · exact (KeepsBooks.ordinary s n).trans (track _)

theorem KeepsBooks.movingNormal (s : State) (n : LaneId) (r : Int) : KeepsBooks s (s.movingNormal n r) := by
  unfold State.movingNormal
  dsimp only
  split
  · exact KeepsBooks.trans (.of_books (s.books_putLane n _)) (.plateau _ n)
  · exact .of_books (s.books_putLane n _)

theorem KeepsBooks.takeConversion (s : State) (n : LaneId) (rd : Reading) : KeepsBooks s (s.takeConversion n rd) := by
  have abnormal : ∀ c, KeepsBooks s (s.abnormalConversion n c) := fun c => .of_books (s.books_abnormalConversion n c)
  have lane : ∀ l, KeepsBooks s (s.putLane n l) := fun l => .of_books (s.books_putLane n l)
  unfold State.takeConversion
  dsimp only
  split
  case h_1 => exact .refl s
  case h_2 =>
    split
    · exact .movingNormal s n _
    · exact abnormal _
  case h_3 =>
    split
    · exact lane _
    · exact abnormal _
  case h_4 =>
    split
    · split
      · split
        · exact .of_books (s.books_captureNormal n _ _ _)
        · exact .refl s
      · exact lane _
    · exact abnormal _
  case h_5 =>
    split
    · split
      · exact .of_books (s.books_faultRecovery n _)
      · exact lane _
    · exact lane _

theorem KeepsBooks.converted (s : State) (rd : Reading) : KeepsBooks s (s.converted rd) := by
  unfold State.converted
  split
  · exact (KeepsBooks.takeConversion s _ rd).trans (.of_books rfl)
  · exact .refl s

/-! ### Restart, the hold and the saves (R196 to R198) -/

theorem KeepsBooks.restart (s : State) : KeepsBooks s s.restart where
  records _ := recordsSound_empty rfl s.held_restart
  reply _ := by simp [ReplyLaw, State.restart]
  save _ := by simp [SaveLaw, State.restart]

theorem saveLaw_cutOff {st : Store} (h : st.save = .saving ↔ st.copy.isSome = true) :
    st.cutOff.save = .saving ↔ st.cutOff.copy.isSome = true := by
  unfold Store.cutOff
  split
  · simp
  · exact h

theorem KeepsBooks.holdInRestart (s : State) : KeepsBooks s s.holdInRestart where
  records := recordsSound_congr rfl rfl
  reply _ := by simp [ReplyLaw, State.holdInRestart]
  save := saveLaw_cutOff

theorem KeepsBooks.beginSave (s : State) : KeepsBooks s s.beginSave where
  records := recordsSound_congr rfl rfl
  reply := replyLaw_congr rfl rfl rfl
  save _ := by simp [SaveLaw, State.beginSave]

theorem saveLaw_saved (st : Store) (agrees : Bool) :
    (st.saved agrees).save = .saving ↔ (st.saved agrees).copy.isSome = true := by
  unfold Store.saved
  split <;> simp

theorem KeepsBooks.saved (s : State) (agrees : Bool) : KeepsBooks s { s with store := s.store.saved agrees } where
  records := recordsSound_congr rfl rfl
  reply := replyLaw_congr rfl rfl rfl
  save _ := saveLaw_saved s.store agrees

/-! ### The receiver (R186, R189) -/

/-- The receiver moves between HUNT and READY: no reply is in transmission. -/
theorem KeepsBooks.setReceiver {s : State} {r : Receiver} (hs : s.link.receiver ≠ .replying) (hr : r ≠ .replying) :
    KeepsBooks s (s.setReceiver r) where
  records := recordsSound_congr rfl rfl
  reply h := by simpa [ReplyLaw, hs, hr] using h
  save := saveLaw_congr rfl

/-- R186: the reply to a request puts the receiver in REPLYING, whatever the request made of the link. -/
theorem KeepsBooks.replied {s : State} {r : Served} (hj : r.state.journal = s.journal) (hh : r.state.holds = s.holds)
    (hs : r.state.store = s.store) (h : Header) (kind : Nat) : KeepsBooks s (r.reply h kind) where
  records := recordsSound_congr hj hh
  reply _ := by simp [ReplyLaw, Served.reply]
  save := saveLaw_congr hs

/-- What `serve` can do, with when it does it: a request acts only from READY, and without a reply only when broadcast. -/
theorem serve_cases_ready (kind : Nat) (ro : Bool) (h : Header) (p : List Byte) (act : State → Served) (s : State) :
    serve kind ro h p act s = s ∨ s.link.receiver = .ready ∧
      (serve kind ro h p act s = atHunt s ∨
        s.addressed h = .broadcast ∧ serve kind ro h p act s = (act (atHunt s)).state ∨
        serve kind ro h p act s = (act (atHunt s)).reply h kind) := by
  by_cases hs : s.operating = true ∧ s.link.receiver = .ready
  · refine .inr ⟨hs.2, ?_⟩
    unfold serve
    rw [if_pos (by simp [hs])]
    split
    · split
      · exact .inr (.inr rfl)
      · next hb =>
        split
        · exact .inl rfl
        · exact .inr (.inl ⟨hb, rfl⟩)
      · exact .inl rfl
    · exact .inl rfl
  · exact .inl (serve_unheard hs kind ro h p act)

theorem KeepsBooks.serve {act : State → Served} (hact : ∀ u, KeepsBooks u (act u).state) (kind : Nat) (ro : Bool) (h : Header)
    (p : List Byte) (s : State) : KeepsBooks s (serve kind ro h p act s) := by
  rcases serve_cases_ready kind ro h p act s with e | ⟨hready, e⟩
  · rw [e]
    exact .refl s
  · have hunt : KeepsBooks s (atHunt s) := .setReceiver (by simp [hready]) (by decide)
    rcases e with e | ⟨-, e⟩ | e <;> rw [e]
    · exact hunt
    · exact hunt.trans (hact _)
    · exact (hunt.trans (hact _)).trans (.replied rfl rfl rfl h kind)

end Sys2Proof.Machine
end

section
/-! SUPPORT. Every command keeps the laws of the journal, the link and the store (O56). -/

namespace Sys2Proof.Machine

/-! ### The checks of the requests -/

section
variable {s : State} {k : Served}

theorem books_accept {t : State} (h : t.books = s.books) (body : List Byte) : (t.accept body).state.books = s.books := h

theorem books_unlessSaving (h : k.state.books = s.books) : (unlessSaving s k).state.books = s.books := by
  unfold unlessSaving
  split
  · rfl
  · exact h

theorem books_withLane {b : Byte} {k : LaneId → Served} (h : ∀ n, (k n).state.books = s.books) :
    (withLane s b k).state.books = s.books := by
  unfold withLane
  split
  · exact h _
  · rfl

theorem books_withBay {b : Byte} {k : BayId → Served} (h : ∀ i, (k i).state.books = s.books) :
    (withBay s b k).state.books = s.books := by
  unfold withBay
  split
  · exact h _
  · rfl

theorem books_unlessOff {n : LaneId} (h : k.state.books = s.books) : (unlessOff s n k).state.books = s.books := by
  unfold unlessOff
  split
  · rfl
  · exact h

theorem books_unlessCapture {n : LaneId} (h : k.state.books = s.books) : (unlessCapture s n k).state.books = s.books := by
  unfold unlessCapture
  split
  · rfl
  · exact h

theorem books_require {ok : Bool} {st : Status} (h : k.state.books = s.books) : (require s ok st k).state.books = s.books := by
  unfold require
  split
  · exact h
  · rfl

theorem books_withCall {slot g : Byte} {k : SlotId → Call → Served} (h : ∀ i c, (k i c).state.books = s.books) :
    (withCall s slot g k).state.books = s.books := by
  unfold withCall
  split
  · split
    · split
      · exact h _ _
      · rfl
    · rfl
  · rfl
end

/-! ### The device requests (R192 to R195) -/

section
variable (p : List Byte) (s : State)

theorem books_identify : (identify p s).state.books = s.books := by
  unfold identify
  split <;> rfl

theorem books_getStatus : (getStatus p s).state.books = s.books := by
  unfold getStatus
  split <;> rfl

theorem State.books_takeDevice (broadcast : Bool) (d : DeviceSettings) : (s.takeDevice broadcast d).books = s.books := by
  have offered : (if d.faultClass = s.device.faultClass then s else s.offerFaultClass d.faultClass).books = s.books := by
    split
    · rfl
    · exact (s.touched_offerFaultClass _).books
  unfold State.takeDevice
  dsimp only
  generalize (if d.faultClass = s.device.faultClass then s else s.offerFaultClass d.faultClass) = t at offered ⊢
  split <;> exact offered

theorem books_setDevice (broadcast : Bool) : (setDevice broadcast p s).state.books = s.books := by
  unfold setDevice
  split
  · refine books_unlessSaving ?_
    split
    · exact s.books_takeDevice broadcast _
    · rfl
  · rfl

/-! ### The lane and calibration requests (chapters 1 and 5) -/

theorem books_laneSummary : (laneSummary p s).state.books = s.books := by
  unfold laneSummary
  split <;> rfl

theorem books_getLane : (getLane p s).state.books = s.books := by
  unfold getLane
  split
  · exact books_withLane fun _ => rfl
  · rfl

theorem State.books_bindFresh (n : LaneId) (f : BindFields) : (s.bindFresh n f).books = s.books := by
  unfold State.bindFresh State.wake
  split <;> rfl

theorem State.books_rebind (n : LaneId) (f : BindFields) : (s.rebind n f).books = s.books := by
  unfold State.rebind
  dsimp only
  rw [(State.touched_offerChangedClass _ _ _).books, State.books_handLevel, State.books_putLane]

theorem books_bindLane : (bindLane p s).state.books = s.books := by
  unfold bindLane
  split
  · refine books_unlessSaving (books_withLane fun n => books_unlessCapture ?_)
    split
    · unfold State.bind
      dsimp only [State.accept]
      split
      · exact s.books_bindFresh n _
      · exact s.books_rebind n _
    · rfl
  · rfl

theorem State.books_unbind (n : LaneId) : (s.unbind n).books = s.books := by
  unfold State.unbind
  rw [State.books_putLane, (s.touched_unbindCalls n).books]

theorem books_unbindLane : (unbindLane p s).state.books = s.books := by
  unfold unbindLane
  split
  · exact books_unlessSaving (books_withLane fun n => books_unlessOff (books_unlessCapture
      (books_require (books_accept (s.books_unbind n) _))))
  · rfl

theorem books_setLaneWeighing : (setLaneWeighing p s).state.books = s.books := by
  unfold setLaneWeighing
  split
  · exact books_unlessSaving (books_withLane fun _ => books_unlessOff (books_unlessCapture rfl))
  · rfl

theorem State.books_suspend (n : LaneId) : (s.suspend n).books = s.books := by
  unfold State.suspend
  rw [(State.touched_suspendCalls _ n).books, State.books_putLane]

theorem books_suspendLane : (suspendLane p s).state.books = s.books := by
  unfold suspendLane
  split
  · exact books_unlessSaving (books_withLane fun n => books_unlessOff (books_unlessCapture
      (books_require (books_accept (s.books_suspend n) _))))
  · rfl

theorem State.books_resume (n : LaneId) : (s.resume n).books = s.books := by
  unfold State.resume
  rw [State.books_sweep, State.books_putLane]

theorem books_resumeLane : (resumeLane p s).state.books = s.books := by
  unfold resumeLane
  split
  · exact books_unlessSaving (books_withLane fun n => books_unlessOff (books_unlessCapture
      (books_require (books_accept (s.books_resume n) _))))
  · rfl

theorem books_tryCapture (n : LaneId) (kind : CaptureKind) (mass : Nat) :
    (s.tryCapture n kind mass).state.books = s.books := by
  unfold State.tryCapture
  split <;> rfl

theorem books_beginZero : (beginZero p s).state.books = s.books := by
  unfold beginZero
  split
  · exact books_withLane fun n => books_unlessOff (books_unlessCapture (books_require (books_tryCapture s n _ _)))
  · rfl

theorem books_beginSpan : (beginSpan p s).state.books = s.books := by
  unfold beginSpan
  split
  · exact books_withLane fun n => books_unlessOff (books_unlessCapture
      (books_require (books_require (books_require (books_tryCapture s n _ _)))))
  · rfl

theorem books_cancelCapture : (cancelCapture p s).state.books = s.books := by
  unfold cancelCapture
  split
  · refine books_withLane fun n => books_unlessOff ?_
    split
    · split <;> rfl
    · rfl
  · rfl

theorem State.books_calibrate (n : LaneId) (zero : Int) (gain : Nat) : (s.calibrate n zero gain).books = s.books := by
  unfold State.calibrate
  dsimp only
  split
  · rw [State.books_clearSource, State.books_putLane]
  · rfl

theorem books_setCalibration : (setCalibration p s).state.books = s.books := by
  unfold setCalibration
  split
  · exact books_unlessSaving (books_withLane fun n => books_unlessOff (books_unlessCapture
      (books_require (books_accept (s.books_calibrate n _ _) _))))
  · rfl

/-! ### The journal's report and the watch requests (chapters 6 and 7) -/

theorem books_readMoves : (readMoves p s).state.books = s.books := by
  unfold readMoves
  split <;> rfl

theorem books_setWatch : (setWatch p s).state.books = s.books := by
  unfold setWatch
  split
  · refine books_unlessSaving ?_
    split <;> rfl
  · rfl

theorem books_getWatch : (getWatch p s).state.books = s.books := by
  unfold getWatch
  split
  · split <;> rfl
  · rfl

theorem books_clearWatchHits : (clearWatchHits p s).state.books = s.books := by
  unfold clearWatchHits
  split <;> rfl

/-! ### The call and class requests (chapters 8 and 9) -/

theorem books_nextCall : (nextCall p s).state.books = s.books := by
  unfold nextCall
  split <;> rfl

theorem books_listCalls : (listCalls p s).state.books = s.books := by
  unfold listCalls
  split
  · split <;> rfl
  · rfl

theorem books_takeCall : (takeCall p s).state.books = s.books := by
  unfold takeCall
  split
  · exact books_withCall fun i c => books_require rfl
  · rfl

theorem books_close (i : SlotId) (c : Call) : (s.close i c).state.books = s.books := by
  unfold State.close
  split
  · exact ((s.touched_putCall i _).trans (State.touched_noteNewCall _ _)).books
  · exact ((s.touched_freeEntry i).trans (State.touched_place _)).books

theorem books_closeCall : (closeCall p s).state.books = s.books := by
  unfold closeCall
  split
  · exact books_withCall fun i c => books_require (books_close s i c)
  · rfl

theorem books_clearCallsRequest : (clearCallsRequest p s).state.books = s.books := by
  unfold clearCallsRequest
  split
  · exact s.touched_clearCalls.books
  · rfl

theorem State.books_writeClass (k : ClassId) (r : ClassRecord) : (s.writeClass k r).books = s.books := by
  unfold State.writeClass
  dsimp only
  split <;> rfl

theorem State.books_reloadClass (k : ClassId) : (s.reloadClass k).books = s.books :=
  s.books_withTables _ _ _ _ _ _ _

theorem books_setClass : (setClass p s).state.books = s.books := by
  unfold setClass
  split
  · refine books_unlessSaving ?_
    split
    · dsimp only [State.accept]
      split
      · rw [State.books_reloadClass, State.books_writeClass]
      · exact s.books_writeClass _ _
    · rfl
  · rfl

theorem books_getClass : (getClass p s).state.books = s.books := by
  unfold getClass
  split
  · split <;> rfl
  · rfl

/-! ### The bay requests (chapter 10) -/

theorem books_setBay : (setBay p s).state.books = s.books := by
  unfold setBay
  split
  · refine books_unlessSaving (books_withBay fun i => ?_)
    split <;> rfl
  · rfl

theorem books_getBay : (getBay p s).state.books = s.books := by
  unfold getBay
  split
  · exact books_withBay fun _ => rfl
  · rfl

theorem books_openWindow : (openWindow p s).state.books = s.books := by
  unfold openWindow
  split
  · exact books_withBay fun _ => rfl
  · exact books_withBay fun _ => rfl
  · rfl

theorem books_closeWindow : (closeWindow p s).state.books = s.books := by
  unfold closeWindow
  split
  · refine books_withBay fun i => ?_
    split
    · exact s.books_closeBayWindow i
    · rfl
  · rfl

theorem books_setLamp : (setLamp p s).state.books = s.books := by
  unfold setLamp
  split
  · refine books_withBay fun i => ?_
    split
    · rfl
    · split <;> rfl
  · rfl

theorem books_setPattern : (setPattern p s).state.books = s.books := by
  unfold setPattern
  split
  · refine books_unlessSaving ?_
    split <;> rfl
  · rfl

/-! ### The requests that write the journal, the store or the link (R105, R106, R196, R198) -/

theorem KeepsBooks.removeMoves : KeepsBooks s (removeMoves p s).state := by
  unfold Machine.removeMoves
  split
  · exact .removeHead s _
  · exact .refl s

theorem KeepsBooks.clearJournalRequest : KeepsBooks s (Machine.clearJournal p s).state := by
  unfold Machine.clearJournal
  split
  · exact .clearJournal s
  · exact .refl s

theorem KeepsBooks.saveSettings : KeepsBooks s (saveSettings p s).state := by
  unfold Machine.saveSettings
  split
  · unfold unlessSaving
    split
    · exact .refl s
    · exact .beginSave s
  · exact .refl s

/-- R190: a broadcast RESTART begins at once. -/
theorem KeepsBooks.restartRequest : KeepsBooks s (restartRequest true p s).state := by
  unfold Machine.restartRequest
  split
  · unfold unlessSaving
    split
    · exact .refl s
    · exact .restart s
  · exact .refl s

/-- R198: an addressed RESTART is only marked as pending, of which the reply then takes care. -/
theorem restartRequest_stands : (restartRequest false p s).state.journal = s.journal ∧
    (restartRequest false p s).state.holds = s.holds ∧ (restartRequest false p s).state.store = s.store := by
  unfold restartRequest
  split
  · unfold unlessSaving
    split <;> exact ⟨rfl, rfl, rfl⟩
  · exact ⟨rfl, rfl, rfl⟩

theorem KeepsBooks.serveRestart (h : Header) :
    KeepsBooks s (Machine.serve 3 false h p (Machine.restartRequest (s.addressed h == .broadcast) p) s) := by
  cases hb : s.addressed h == .broadcast with
  | true => exact .serve (KeepsBooks.restartRequest p) _ _ _ _ s
  | false =>
    rcases serve_cases_ready 3 false h p (Machine.restartRequest false p) s with e | ⟨hready, e⟩
    · rw [e]
      exact .refl s
    · have hunt : KeepsBooks s (atHunt s) := .setReceiver (by simp [hready]) (by decide)
      rcases e with e | ⟨hb', -⟩ | e
      · rw [e]
        exact hunt
      · simp [hb'] at hb
      · obtain ⟨hj, hh, hs⟩ := restartRequest_stands p (atHunt s)
        rw [e]
        exact hunt.trans (.replied hj hh hs h 3)
end

/-! ### The supply, the pins, the line and the store (R186, R197, R198) -/

/-- An outcome that is a next state in which the laws are kept. -/
def BooksKept (s : State) (o : Out) : Prop :=
  ∀ t, o = .next t → KeepsBooks s t

theorem booksKept_next {s t : State} (h : KeepsBooks s t) : BooksKept s (.next t) := by
  intro u e
  cases e
  exact h

theorem booksKept_execPowerOn (straps : BitVec 5) (s : State) : BooksKept s (execPowerOn straps s) := by
  have pins : ∀ pw, KeepsBooks s { s with power := pw } := fun _ => .of_books rfl
  unfold execPowerOn
  split
  · exact booksKept_next (.refl s)
  · refine booksKept_next ?_
    dsimp only
    split
    · exact pins _
    · exact (pins _).trans (.restart _)

theorem booksKept_execResetNLow (s : State) : BooksKept s (execResetNLow s) := by
  unfold execResetNLow
  split
  · exact booksKept_next (.refl s)
  · exact booksKept_next ((KeepsBooks.holdInRestart s).trans (.of_books rfl))

theorem booksKept_execResetNRelease (straps : BitVec 5) (s : State) : BooksKept s (execResetNRelease straps s) := by
  have pins : ∀ pw, KeepsBooks s { s with power := pw } := fun _ => .of_books rfl
  unfold execResetNRelease
  split
  · refine booksKept_next ?_
    dsimp only
    split
    · exact (pins _).trans (.restart _)
    · exact pins _
  · exact booksKept_next (.refl s)

theorem booksKept_execPowerLoss (s : State) : BooksKept s (execPowerLoss s) := by
  unfold execPowerLoss
  split
  · exact booksKept_next ((KeepsBooks.holdInRestart s).trans (.of_books rfl))
  · exact booksKept_next (.refl s)

theorem booksKept_execLineIdle (s : State) : BooksKept s (execLineIdle s) := by
  unfold execLineIdle
  split
  · next h =>
    simp only [Bool.and_eq_true, bne_iff_ne] at h
    obtain ⟨-, hr⟩ := h
    exact booksKept_next (.setReceiver hr (by decide))
  · exact booksKept_next (.refl s)

theorem booksKept_execFrameAbandoned (chars : List Byte) (s : State) : BooksKept s (execFrameAbandoned chars s) := by
  unfold execFrameAbandoned
  split
  · next h =>
    simp only [Bool.and_eq_true, bne_iff_ne] at h
    obtain ⟨-, hr⟩ := h
    exact booksKept_next (.setReceiver hr (by decide))
  · exact booksKept_next (.refl s)

theorem booksKept_execFrameDiscarded (chars : List Byte) (s : State) : BooksKept s (execFrameDiscarded chars s) := by
  unfold execFrameDiscarded
  split
  · next h =>
    simp only [Bool.and_eq_true, beq_iff_eq] at h
    obtain ⟨⟨-, hready⟩, -⟩ := h
    exact booksKept_next (.setReceiver (by simp [hready]) (by decide))
  · exact booksKept_next (.refl s)

theorem booksKept_execUnknownKindRequest (h : Header) (kind : Byte) (p : List Byte) (s : State) :
    BooksKept s (execUnknownKindRequest h kind p s) := by
  unfold execUnknownKindRequest
  split
  · exact booksKept_next (.serve .refl _ _ _ _ s)
  · split
    · next h =>
      simp only [Bool.and_eq_true, beq_iff_eq] at h
      obtain ⟨-, hready⟩ := h
      exact booksKept_next (.setReceiver (by simp [hready]) (by decide))
    · exact booksKept_next (.refl s)

/-- R186: the end of a reply takes the receiver to HUNT with no reply left; a pending RESTART begins. -/
theorem booksKept_execReplyComplete (s : State) : BooksKept s (execReplyComplete s) := by
  unfold execReplyComplete
  split
  · split
    · exact booksKept_next (.restart s)
    · next hp => exact booksKept_next ⟨recordsSound_congr rfl rfl, fun _ => by simp [ReplyLaw, hp], saveLaw_congr rfl⟩
  · exact booksKept_next (.refl s)

theorem booksKept_execSaveComplete (agrees : Bool) (s : State) : BooksKept s (execSaveComplete agrees s) := by
  unfold execSaveComplete
  split
  · exact booksKept_next ((KeepsBooks.saved s agrees).trans (.of_books rfl))
  · exact booksKept_next (.refl s)

theorem KeepsBooks.tickIf (due : Bool) (t : TickInput) (s : State) : KeepsBooks s (tickIf due t s) := by
  unfold Machine.tickIf
  split
  · exact .of_books (s.books_ticked t)
  · exact .refl s

theorem KeepsBooks.convertIf (due : Bool) (rd : Reading) (s : State) : KeepsBooks s (convertIf due rd s) := by
  unfold Machine.convertIf
  split
  · exact .converted s rd
  · exact .refl s

/-! ### Every command, and every step -/

theorem booksKept_exec (c : Instr) (s : State) : BooksKept s (exec c s) := by
  have request : ∀ {kind ro h p} {act : State → Served}, (∀ u, KeepsBooks u (act u).state) →
      BooksKept s (.next (serve kind ro h p act s)) := fun hact => booksKept_next (.serve hact _ _ _ _ s)
  have aside : ∀ {kind ro h p} {act : State → Served}, (∀ u, (act u).state.books = u.books) →
      BooksKept s (.next (serve kind ro h p act s)) := fun hact => request fun u => .of_books (hact u)
  have tick : ∀ due t, BooksKept s (.next (tickIf due t s)) := fun due t => booksKept_next (.tickIf due t s)
  have convert : ∀ due rd, BooksKept s (.next (convertIf due rd s)) := fun due rd => booksKept_next (.convertIf due rd s)
  cases c with
  | powerOn straps => exact booksKept_execPowerOn straps s
  | resetNLow => exact booksKept_execResetNLow s
  | resetNRelease straps => exact booksKept_execResetNRelease straps s
  | powerLoss => exact booksKept_execPowerLoss s
  | lineIdle => exact booksKept_execLineIdle s
  | frameAbandoned chars => exact booksKept_execFrameAbandoned chars s
  | frameDiscarded chars => exact booksKept_execFrameDiscarded chars s
  | unknownKindRequest h kind p => exact booksKept_execUnknownKindRequest h kind p s
  | replyComplete => exact booksKept_execReplyComplete s
  | saveComplete agrees => exact booksKept_execSaveComplete agrees s
  | restart h p => exact booksKept_next (.serveRestart p s h)
  | saveSettings h p => exact request (KeepsBooks.saveSettings p)
  | removeMoves h p => exact request (KeepsBooks.removeMoves p)
  | clearJournal h p => exact request (KeepsBooks.clearJournalRequest p)
  | identify h p => exact aside (books_identify p)
  | getStatus h p => exact aside (books_getStatus p)
  | setDevice h p => exact aside fun u => books_setDevice p u _
  | laneSummary h p => exact aside (books_laneSummary p)
  | getLane h p => exact aside (books_getLane p)
  | bindLane h p => exact aside (books_bindLane p)
  | unbindLane h p => exact aside (books_unbindLane p)
  | setLaneWeighing h p => exact aside (books_setLaneWeighing p)
  | suspendLane h p => exact aside (books_suspendLane p)
  | resumeLane h p => exact aside (books_resumeLane p)
  | beginZero h p => exact aside (books_beginZero p)
  | beginSpan h p => exact aside (books_beginSpan p)
  | cancelCapture h p => exact aside (books_cancelCapture p)
  | setCalibration h p => exact aside (books_setCalibration p)
  | readMoves h p => exact aside (books_readMoves p)
  | setWatch h p => exact aside (books_setWatch p)
  | getWatch h p => exact aside (books_getWatch p)
  | clearWatchHits h p => exact aside (books_clearWatchHits p)
  | nextCall h p => exact aside (books_nextCall p)
  | listCalls h p => exact aside (books_listCalls p)
  | takeCall h p => exact aside (books_takeCall p)
  | closeCall h p => exact aside (books_closeCall p)
  | clearCalls h p => exact aside (books_clearCallsRequest p)
  | setClass h p => exact aside (books_setClass p)
  | getClass h p => exact aside (books_getClass p)
  | setBay h p => exact aside (books_setBay p)
  | getBay h p => exact aside (books_getBay p)
  | openWindow h p => exact aside (books_openWindow p)
  | closeWindow h p => exact aside (books_closeWindow p)
  | setLamp h p => exact aside (books_setLamp p)
  | setPattern h p => exact aside (books_setPattern p)
  | tick t => exact tick true t
  | captureTimeout slot t => exact tick _ t
  | renotifyExpiry slot t => exact tick _ t
  | serviceExpiry slot t => exact tick _ t
  | windowExpiry bay t => exact tick _ t
  | overrideExpiry bay t => exact tick _ t
  | keyPress bay t => exact tick _ t
  | longPress bay t => exact tick _ t
  | keyRelease bay t => exact tick _ t
  | conversion rd => exact convert true rd
  | faultEntry rd => exact convert _ rd
  | faultRecovery rd => exact convert _ rd
  | plateau rd => exact convert _ rd
  | captureComplete rd => exact convert _ rd

theorem keepsBooks_step {s t : State} (h : step s = .next t) : KeepsBooks s t := by
  unfold step at h
  split at h
  · cases h
    exact .refl s
  · next c rest _ =>
    have hqueue : KeepsBooks s { s with pending := rest } := .of_books rfl
    exact hqueue.trans (booksKept_exec c _ t h)

/-- Settles O56: every command keeps the journal's two laws together, and those of the link and of the store each on its own. -/
theorem stepsKeepJournalLinkAndStore : Obligations.StepsKeepJournalLinkAndStore :=
  fun _ _ h => ⟨fun hj hr => (keepsBooks_step h).records ⟨hj, hr⟩, (keepsBooks_step h).reply, (keepsBooks_step h).save⟩

end Sys2Proof.Machine
end

section
/-! SUPPORT. The watch requests: the fields of a rule read and refused, and the three replies (O31). -/

namespace Sys2Proof.Machine

/-! ### Named values and bounds (R116, R191) -/

theorem named_lt {α : Type} {values : List α} {b : Byte} {v : α} (h : named values b = some v) : b.toNat < values.length :=
  (List.getElem?_eq_some_iff.mp h).1

@[simp] theorem yesNo_flag (b : Bool) : yesNo (flag b) = some b := by cases b <;> rfl

@[simp] theorem named_laneMode (x : LaneMode) : named LaneMode.all (w8 x.code) = some x := by cases x <;> rfl

@[simp] theorem named_measure (x : Measure) : named Measure.all (w8 x.code) = some x := by cases x <;> rfl

@[simp] theorem named_magnitudeMode (x : MagnitudeMode) : named MagnitudeMode.all (w8 x.code) = some x := by cases x <;> rfl

@[simp] theorem named_watchAction (x : WatchAction) : named WatchAction.all (w8 x.code) = some x := by cases x <;> rfl

/-- EQUAL is the lane mode of code 0 (R191). -/
theorem eq_zero_of_named_equal {b : Byte} (h : named LaneMode.all b = some .equal) : b = 0 := by
  have hb : b.toNat < 3 := named_lt h
  have hcases : b.toNat = 0 ∨ b.toNat = 1 ∨ b.toNat = 2 := by omega
  rcases hcases with h0 | h1 | h2
  · exact BitVec.eq_of_toNat_eq h0
  · rw [named, h1] at h
    cases h
  · rw [named, h2] at h
    cases h

theorem magnitudeField_natCast {n : Nat} (h : n ≤ 8000000) : magnitudeField n = some n :=
  if_pos ⟨by omega, by omega⟩

theorem magnitudeField_some {x : Int} {n : Nat} (h : magnitudeField x = some n) : x = n ∧ n ≤ 8000000 := by
  obtain ⟨⟨hlow, hhigh⟩, hn⟩ := Option.ite_none_right_eq_some.mp h
  cases hn
  omega

theorem toInt_ofInt_natCast {n : Nat} (h : n ≤ 8000000) : (BitVec.ofInt 32 n).toInt = n := by
  rw [BitVec.toInt_ofInt]
  exact Int.bmod_eq_of_le (by omega) (by omega)

/-! ### The fields of a rule (R116) -/

/-- The rule as SET_WATCH takes it: lane high equal to lane low under EQUAL (R116). -/
abbrev WatchConfig.taken (c : WatchConfig) : WatchConfig :=
  { c with laneHigh := if c.laneMode = .equal then c.laneLow else c.laneHigh }

theorem watchFields_some {c : WatchConfig} {kinds : Byte} (hkinds : c.kinds = kinds.setWidth 4)
    (hlanes : c.laneMode ≠ .equal → c.laneLow ≤ c.laneHigh) (hlow : c.magnitudeLow ≤ c.magnitudeHigh)
    (hhigh : c.magnitudeHigh ≤ 8000000) :
    watchFields (flag c.enabled) (w8 c.laneMode.code) (w8 c.laneLow) (w8 c.laneHigh) kinds (w8 c.measure.code)
      (w8 c.magnitudeMode.code) c.magnitudeLow c.magnitudeHigh (w8 c.action.code) (w8 c.cls) (flag c.oneShot) =
      some c.taken := by
  have horder : (c.laneMode = .equal ∨ c.laneLow ≤ c.laneHigh) ∧ c.magnitudeLow ≤ c.magnitudeHigh :=
    ⟨or_iff_not_imp_left.mpr hlanes, hlow⟩
  simp [watchFields, magnitudeField_natCast (hlow.trans hhigh), magnitudeField_natCast hhigh, horder, hkinds]

/-- What SET_WATCH takes lies in the range of every field (R116). -/
theorem inRange_of_watchFields_some {en mode lo hi kinds measure mmode action cls one : Byte} {mlo mhi : Int} {c : WatchConfig}
    (h : watchFields en mode lo hi kinds measure mmode mlo mhi action cls one = some c) :
    (en.toNat < 2 ∧ mode.toNat < 3 ∧ lo.toNat ≤ 47 ∧ hi.toNat ≤ 47 ∧ ¬(mode ≠ 0 ∧ hi.toNat < lo.toNat)) ∧
      (measure.toNat < 2 ∧ mmode.toNat < 2 ∧ 0 ≤ mlo ∧ mlo ≤ mhi ∧ mhi ≤ 8000000) ∧
      action.toNat < 2 ∧ cls.toNat ≤ 7 ∧ one.toNat < 2 := by
  obtain ⟨enabled, hen, h⟩ := Option.bind_eq_some_iff.mp h
  obtain ⟨laneMode, hmode, h⟩ := Option.bind_eq_some_iff.mp h
  obtain ⟨laneLow, hlo, h⟩ := Option.bind_eq_some_iff.mp h
  obtain ⟨laneHigh, hhi, h⟩ := Option.bind_eq_some_iff.mp h
  obtain ⟨meas, hmeasure, h⟩ := Option.bind_eq_some_iff.mp h
  obtain ⟨mm, hmmode, h⟩ := Option.bind_eq_some_iff.mp h
  obtain ⟨low, hlow, h⟩ := Option.bind_eq_some_iff.mp h
  obtain ⟨high, hhigh, h⟩ := Option.bind_eq_some_iff.mp h
  obtain ⟨act, haction, h⟩ := Option.bind_eq_some_iff.mp h
  obtain ⟨k, hcls, h⟩ := Option.bind_eq_some_iff.mp h
  obtain ⟨oneShot, hone, h⟩ := Option.bind_eq_some_iff.mp h
  obtain ⟨⟨hlanes, horder⟩, -⟩ := Option.ite_none_right_eq_some.mp h
  obtain ⟨rfl, -⟩ := magnitudeField_some hlow
  obtain ⟨rfl, hmax⟩ := magnitudeField_some hhigh
  have hlo := index_some.mp hlo
  have hhi := index_some.mp hhi
  have hcls := index_some.mp hcls
  refine ⟨⟨named_lt hen, named_lt hmode, by omega, by omega, fun ⟨hne, hlt⟩ => ?_⟩,
    ⟨named_lt hmeasure, named_lt hmmode, by omega, by omega, by omega⟩, named_lt haction, by omega, named_lt hone⟩
  rcases hlanes with rfl | hle
  · exact absurd (eq_zero_of_named_equal hmode) hne
  · rw [hlo, hhi] at hlt
    exact absurd hlt (Nat.not_lt.mpr hle)

/-! ### SET_WATCH (R116, R117) -/

section
variable {s : State} (hsave : s.store.save ≠ .saving) {b en mode lo hi kinds measure mmode action cls one : Byte}
  {mlo mhi : BitVec 32}
include hsave

theorem setWatch_taken {w : RuleId} {c : WatchConfig}
    (hc : watchFields en mode lo hi kinds measure mmode mlo.toInt mhi.toInt action cls one = some c) :
    setWatch ([w8 w, en, mode, lo, hi, kinds, measure, mmode] ++ w32 mlo ++ w32 mhi ++ [action, cls, one]) s =
      (s.writeRule w c).accept (w8 w :: watchReport { config := c, hits := 0 }) := by
  simp [w32, setWatch, unlessSaving_idle hsave, hc]

theorem setWatch_refused (h : 7 < b.toNat ∨
      watchFields en mode lo hi kinds measure mmode mlo.toInt mhi.toInt action cls one = none) :
    setWatch ([b, en, mode, lo, hi, kinds, measure, mmode] ++ w32 mlo ++ w32 mhi ++ [action, cls, one]) s =
      s.refuse .badValue := by
  simp only [w32, List.cons_append, List.nil_append, setWatch, unlessSaving_idle hsave, s32_w8]
  rcases h with hb | hc
  · rw [index_ge hb]
  · rw [hc]
    cases index 8 b <;> rfl

end

/-! ### GET_WATCH and CLEAR_WATCH_HITS (R118, R119) -/

/-- The kind set's byte holds its four bits and 0 in bits 4 to 7: log entry 27. -/
theorem watchReport_eq (r : WatchRule) : watchReport r =
    [flag r.config.enabled, w8 r.config.laneMode.code, w8 r.config.laneLow, w8 r.config.laneHigh,
      r.config.kinds.setWidth 8, w8 r.config.measure.code, w8 r.config.magnitudeMode.code] ++
      w32s r.config.magnitudeLow ++ w32s r.config.magnitudeHigh ++
      [w8 r.config.action.code, w8 r.config.cls, flag r.config.oneShot] ++ w16 r.hits := by
  have hkinds : w8 r.config.kinds.toNat = r.config.kinds.setWidth 8 := BitVec.ofNat_toNat ..
  rw [watchReport, hkinds]

/-- A rule just written is reported with its counter 0 (R117). -/
theorem watchReport_fresh (c : WatchConfig) : watchReport { config := c, hits := 0 } =
    [flag c.enabled, w8 c.laneMode.code, w8 c.laneLow, w8 c.laneHigh, c.kinds.setWidth 8, w8 c.measure.code,
      w8 c.magnitudeMode.code] ++ w32s c.magnitudeLow ++ w32s c.magnitudeHigh ++
      [w8 c.action.code, w8 c.cls, flag c.oneShot, 0, 0] := by
  have hzero : w16 0 = [0, 0] := rfl
  simp only [watchReport_eq, hzero, List.append_assoc, List.cons_append, List.nil_append]

theorem getWatch_w8 (s : State) (w : RuleId) : getWatch [w8 w] s = s.accept (w8 w :: watchReport (s.rule w)) := by
  rw [getWatch, index_w8 w (by decide)]

theorem getWatch_refused (s : State) {b : Byte} (hb : 7 < b.toNat) : getWatch [b] s = s.refuse .badValue := by
  rw [getWatch, index_ge hb]

theorem clearWatchHits_nil (s : State) :
    clearWatchHits [] s = s.clearHits.accept ((List.finRange 8).flatMap fun w => w16 (s.rule w).hits) :=
  congrArg s.clearHits.accept (flatMap_toList_eq_finRange s.rules _)

theorem State.rule_clearHits (s : State) (w : RuleId) : s.clearHits.rule w = { s.rule w with hits := 0 } := by
  simp only [State.rule, State.clearHits, mapTable_get]

/-- Settles O31: a rule is written as taken, the values out of range are refused, and the two reports read the rules. -/
theorem watchRequestsReadAndWriteRules : Obligations.WatchRequestsReadAndWriteRules := by
  refine ⟨fun s h w c kinds hs hsave hkinds hlanes hlow hhigh => ?taken,
    fun s h b en mode lo hi kinds measure mmode action cls one mlo mhi hs hsave hbad => ?refused,
    fun s h b hs hb => serve_refused hs (by simp) (getWatch_refused _ hb), fun s h w hs => ⟨?report, ?cleared⟩⟩
  case taken =>
    have hfields := watchFields_some hkinds hlanes hlow hhigh
    rw [← toInt_ofInt_natCast (hlow.trans hhigh), ← toInt_ofInt_natCast hhigh] at hfields
    have hset := setWatch_taken (s := atHunt s) (w := w) hsave hfields
    rw [watchReport_fresh] at hset
    exact (serve_accepted (ro := false) hs (by simp [w32s, w32]) hset rfl).trans rfl
  case refused =>
    refine serve_refused hs (by simp [w32]) (setWatch_refused (s := atHunt s) hsave ?_)
    by_contra hgood
    obtain ⟨hb, hfields⟩ := not_or.mp hgood
    obtain ⟨c, hc⟩ := Option.ne_none_iff_exists'.mp hfields
    obtain ⟨⟨hen, hmode, hlo, hhi, hlanes⟩, hrest⟩ := inRange_of_watchFields_some hc
    simp only [hlanes, false_or] at hbad
    omega
  case report =>
    have hget := getWatch_w8 (atHunt s) w
    rw [watchReport_eq] at hget
    exact (serve_accepted hs (by simp) hget rfl).trans rfl
  case cleared =>
    exact ⟨s.clearHits, (serve_accepted hs (by simp) (clearWatchHits_nil (atHunt s)) rfl).trans rfl, rfl, s.rule_clearHits⟩

end Sys2Proof.Machine
end

section
/-! SUPPORT. The watch unit: the three tests as the manual words them, and the hit in the most urgent class (O32). -/

namespace Sys2Proof.Machine

/-! ### The three tests (R111, R112) -/

/-- The lane test, mode by mode (R111). -/
def WatchConfig.HitsLane (c : WatchConfig) (n : LaneId) : Prop :=
  match c.laneMode with
  | .equal => n = c.laneLow
  | .inside => c.laneLow ≤ n ∧ n ≤ c.laneHigh
  | .outside => n < c.laneLow ∨ c.laneHigh < n

/-- The kind test, by the bit of each kind (R112, R191). -/
def WatchConfig.HitsKind (c : WatchConfig) (k : MoveKind) : Prop :=
  match k with
  | .withdraw => c.kinds.getLsbD 0 = true
  | .giveBack => c.kinds.getLsbD 1 = true
  | .replenish => c.kinds.getLsbD 2 = true
  | .recount => c.kinds.getLsbD 3 = true

/-- `size` is the movement's size by the rule's measure (R112). -/
def WatchConfig.Measures (c : WatchConfig) (m : Movement) (size : Nat) : Prop :=
  match c.measure with
  | .count => (size : Int) = |(m.after : Int) - m.before|
  | .grams => (size : Int) = |m.delta|

/-- The magnitude test on a size (R112). -/
def WatchConfig.HitsSize (c : WatchConfig) (size : Nat) : Prop :=
  match c.magnitudeMode with
  | .inside => c.magnitudeLow ≤ size ∧ size ≤ c.magnitudeHigh
  | .outside => size < c.magnitudeLow ∨ c.magnitudeHigh < size

theorem laneTest_iff (c : WatchConfig) (n : LaneId) : laneTest c n = true ↔ c.HitsLane n := by
  unfold laneTest WatchConfig.HitsLane
  cases c.laneMode <;> simp

theorem kindTest_iff (c : WatchConfig) (k : MoveKind) : kindTest c k = true ↔ c.HitsKind k := by
  cases k <;> rfl

theorem measures_iff (c : WatchConfig) (m : Movement) (size : Nat) : c.Measures m size ↔ size = moveSize m c.measure := by
  unfold WatchConfig.Measures moveSize
  cases c.measure <;> simp only [← Int.natCast_natAbs, Int.natCast_inj]

theorem magnitudeTest_iff (c : WatchConfig) (m : Movement) :
    magnitudeTest c m = true ↔ ∃ size, c.Measures m size ∧ c.HitsSize size := by
  simp only [measures_iff, exists_eq_left]
  unfold magnitudeTest WatchConfig.HitsSize
  cases c.magnitudeMode <;> simp

/-- The model's match is the claims': enabled, and all three tests pass (R111 to R113). -/
theorem ruleMatches_iff (r : WatchRule) (m : Movement) : ruleMatches r m = true ↔ ruleHits r m := by
  simp only [ruleMatches, Bool.and_eq_true, and_assoc, laneTest_iff, kindTest_iff, magnitudeTest_iff]
  rfl

/-! ### A rule after a movement (R114) -/

theorem ruleAfter_of_hits {r : WatchRule} {m : Movement} (h : ruleHits r m) :
    ruleAfter r m = { hits := min 65535 (r.hits + 1), config := { r.config with enabled := !r.config.oneShot } } := by
  rw [ruleAfter, if_pos ((ruleMatches_iff r m).mpr h), h.1, Bool.true_and]

theorem ruleAfter_of_not_hits {r : WatchRule} {m : Movement} (h : ¬ruleHits r m) : ruleAfter r m = r :=
  if_neg fun hm => h ((ruleMatches_iff r m).mp hm)

/-! ### The one hit, in the most urgent class (R115) -/

/-- Does the rule match the movement and ask for a call? -/
def WatchRule.raisesOn (m : Movement) (r : WatchRule) : Bool :=
  ruleMatches r m && r.config.action == .raise

/-- One step of the search for the hit's class. -/
def moreUrgent (m : Movement) (best : Option ClassId) (r : WatchRule) : Option ClassId :=
  if r.raisesOn m then
    match best with
    | some k => some (min k r.config.cls)
    | none => some r.config.cls
  else best

/-- The classes of the RAISE rules that match, in the rules' order. -/
def raisedClasses (l : List WatchRule) (m : Movement) : List ClassId :=
  (l.filter (WatchRule.raisesOn m)).map fun r => r.config.cls

section
variable {m : Movement} {r : WatchRule} {l : List WatchRule} {best : Option ClassId}

theorem moreUrgent_of_raises (h : r.raisesOn m = true) : moreUrgent m best r = (best.toList ++ [r.config.cls]).min? := by
  cases best <;> exact if_pos h

theorem moreUrgent_of_not_raises (h : ¬r.raisesOn m = true) : moreUrgent m best r = best := if_neg h

theorem raisedClasses_cons_of_raises (h : r.raisesOn m = true) :
    raisedClasses (r :: l) m = r.config.cls :: raisedClasses l m := by
  rw [raisedClasses, List.filter_cons_of_pos h]
  rfl

theorem raisedClasses_cons_of_not_raises (h : ¬r.raisesOn m = true) : raisedClasses (r :: l) m = raisedClasses l m := by
  rw [raisedClasses, List.filter_cons_of_neg h]
  rfl

end

theorem watchHit_eq_foldl (rules : Vector WatchRule 8) (m : Movement) :
    watchHit rules m = rules.toList.foldl (moreUrgent m) none := rfl

/-- The search takes the minimum of the class it starts from and the classes that it passes. -/
theorem foldl_moreUrgent (m : Movement) (l : List WatchRule) (best : Option ClassId) :
    l.foldl (moreUrgent m) best = (best.toList ++ raisedClasses l m).min? := by
  induction l generalizing best with
  | nil => cases best <;> rfl
  | cons r l ih =>
    rw [List.foldl_cons, ih]
    by_cases h : r.raisesOn m = true
    · rw [moreUrgent_of_raises h, raisedClasses_cons_of_raises h]
      cases best <;> rfl
    · rw [moreUrgent_of_not_raises h, raisedClasses_cons_of_not_raises h]

theorem watchHit_eq_min? (rules : Vector WatchRule 8) (m : Movement) :
    watchHit rules m = (raisedClasses rules.toList m).min? := by
  rw [watchHit_eq_foldl, foldl_moreUrgent]
  rfl

section
variable {s : State} {m : Movement}

theorem State.mem_raisedClasses {k : ClassId} : k ∈ raisedClasses s.rules.toList m ↔
    ∃ w : RuleId, (ruleHits (s.rule w) m ∧ (s.rule w).config.action = .raise) ∧ (s.rule w).config.cls = k := by
  have hmem (r : WatchRule) : r ∈ s.rules.toList ↔ ∃ w : RuleId, s.rule w = r := by
    simp [State.rule, Vector.mem_iff_getElem, Fin.exists_iff]
  simp [raisedClasses, WatchRule.raisesOn, hmem, ← ruleMatches_iff]

theorem State.watchHit_eq_none (h : ∀ w : RuleId, ¬(ruleHits (s.rule w) m ∧ (s.rule w).config.action = .raise)) :
    watchHit s.rules m = none := by
  rw [watchHit_eq_min?, List.min?_eq_none_iff, List.eq_nil_iff_forall_not_mem]
  intro k hk
  obtain ⟨w, hw, -⟩ := State.mem_raisedClasses.mp hk
  exact h w hw

theorem State.watchHit_eq_some {w : RuleId} (hw : ruleHits (s.rule w) m) (ha : (s.rule w).config.action = .raise)
    (hmin : ∀ v : RuleId, ruleHits (s.rule v) m → (s.rule v).config.action = .raise →
      (s.rule w).config.cls ≤ (s.rule v).config.cls) :
    watchHit s.rules m = some (s.rule w).config.cls := by
  rw [watchHit_eq_min?, List.min?_eq_some_iff]
  refine ⟨State.mem_raisedClasses.mpr ⟨w, ⟨hw, ha⟩, rfl⟩, fun k hk => ?_⟩
  obtain ⟨v, ⟨hv, hva⟩, rfl⟩ := State.mem_raisedClasses.mp hk
  exact hmin v hv hva

end

/-- The rules after a movement has been counted (R114). -/
def State.counted (s : State) (m : Movement) : State :=
  { s with rules := mapTable s.rules fun _ r => ruleAfter r m }

theorem State.rule_counted (s : State) (m : Movement) (w : RuleId) : (s.counted m).rule w = ruleAfter (s.rule w) m := by
  simp only [State.rule, State.counted, mapTable_get]

theorem State.watchEvaluate_none {s : State} {m : Movement} (h : watchHit s.rules m = none) :
    s.watchEvaluate m = s.counted m := by
  rw [State.watchEvaluate, h]
  rfl

theorem State.watchEvaluate_some {s : State} {m : Movement} {k : ClassId} (h : watchHit s.rules m = some k) :
    s.watchEvaluate m = (s.counted m).assertSource m.lane .watch k := by
  rw [State.watchEvaluate, h]
  rfl

/-- Settles O32: the rules are counted one by one, and the hit takes the least class of the RAISE rules that match. -/
theorem watchRulesCountAndHit : Obligations.WatchRulesCountAndHit := by
  intro s m
  refine ⟨s.counted m, rfl, fun w => ?_, fun hnone => ?_, fun w hw ha hmin => ?_⟩
  · rw [State.rule_counted]
    exact ⟨ruleAfter_of_hits, ruleAfter_of_not_hits⟩
  · exact State.watchEvaluate_none (State.watchHit_eq_none hnone)
  · exact State.watchEvaluate_some (State.watchHit_eq_some hw ha hmin)

end Sys2Proof.Machine
end

section
/-! SUPPORT. The laws of the call table (R126, R134) through the call controller's operations. -/

namespace Sys2Proof.Machine

/-! ### Calls and markers, each lane and cause stood for once (R126, R134) -/

/-- The calls are distinct and no marked source has a call: the laws of the call table but for the full table that R134 asks of a
set marker, which is what placement brings about. -/
structure StoodForOnce (s : State) : Prop where
  calls   : CallsDistinct s
  markers : ∀ n c, (s.marker n).has c = true → ∀ i a, s.callAt i = some a → ¬(a.lane = n ∧ a.cause = c)

theorem callTableLaw_iff {s : State} :
    CallTableLaw s ↔ StoodForOnce s ∧ ∀ n c, (s.marker n).has c = true → ∀ i, s.callAt i ≠ none :=
  ⟨fun ⟨hd, hm⟩ => ⟨⟨hd, fun n c h => (hm n c h).2⟩, fun n c h => (hm n c h).1⟩,
    fun ⟨ho, hf⟩ => ⟨ho.calls, fun n c h => ⟨hf n c h, ho.markers n c h⟩⟩⟩

theorem CallTableLaw.stoodForOnce {s : State} (h : CallTableLaw s) : StoodForOnce s := (callTableLaw_iff.mp h).1

/-- Calls freed and markers cleared. -/
theorem StoodForOnce.of_fewer {s t : State} (h : StoodForOnce s) (hc : ∀ i a, t.callAt i = some a → s.callAt i = some a)
    (hm : ∀ n c, (t.marker n).has c = true → (s.marker n).has c = true) : StoodForOnce t where
  calls i j a b ha hb := h.calls i j a b (hc i a ha) (hc j b hb)
  markers n c hn i a ha := h.markers n c (hm n c hn) i a (hc i a ha)

/-- No set marker, no law to keep about one: a free entry shows that none is set. -/
theorem CallTableLaw.unmarked {s : State} (h : CallTableLaw s) {i : SlotId} (hi : s.callAt i = none) (n : LaneId) (c : Cause) :
    (s.marker n).has c = false := by
  rw [Bool.eq_false_iff]
  exact fun hn => (h.2 n c hn).1 i hi

/-- A table without calls and markers. -/
theorem callTableLaw_empty {s : State} (hc : ∀ i, s.callAt i = none) (hm : ∀ n, s.marker n = Markers.clear) :
    CallTableLaw s := by
  simp [CallTableLaw, CallsDistinct, MarkersLaw, hc, hm]

theorem State.findCall_eq_some {s : State} (h : CallsDistinct s) {i : SlotId} {a : Call} (ha : s.callAt i = some a) :
    s.findCall a.lane a.cause = some i := by
  cases hf : s.findCall a.lane a.cause with
  | none => exact absurd ⟨rfl, rfl⟩ (State.findCall_none.mp hf i a ha)
  | some j =>
    obtain ⟨b, hb, hl, hc⟩ := State.findCall_some hf
    rw [h j i b a hb ha hl hc]

/-! ### What an assertion and a clearance can do (R126, R127, R129) -/

/-- An assertion rewrites the source's call; without one it meets the need, or leaves a set marker or a lane that may not be raised
for. -/
theorem State.assertSource_cases (s : State) (n : LaneId) (c : Cause) (k : ClassId) :
    (∃ i a, s.callAt i = some a ∧ a.lane = n ∧ a.cause = c ∧ s.assertSource n c k = s.putCall i (a.asserted k)) ∨
      (∀ i a, s.callAt i = some a → ¬(a.lane = n ∧ a.cause = c)) ∧
        ((s.marker n).has c = true ∧ s.assertSource n c k = s.mark n c k ∨
          (s.marker n).has c = false ∧ (s.lane n).raisable = true ∧ s.assertSource n c k = s.need n c k ∨
          (s.marker n).has c = false ∧ (s.lane n).raisable = false ∧ s.assertSource n c k = s) := by
  cases hf : s.findCall n c with
  | some i =>
    obtain ⟨a, ha, hl, hc⟩ := State.findCall_some hf
    exact .inl ⟨i, a, ha, hl, hc, by simp [State.assertSource, hf, ha]⟩
  | none =>
    refine .inr ⟨State.findCall_none.mp hf, ?_⟩
    cases hm : (s.marker n).has c <;> cases hr : (s.lane n).raisable <;> simp [State.assertSource, hf, hm, hr]

/-- A clearance retires the source's call by its state; without one it clears the marker. -/
theorem State.clearSource_cases (s : State) (n : LaneId) (c : Cause) :
    (∃ i a, s.callAt i = some a ∧ a.lane = n ∧ a.cause = c ∧
      (a.state = .raised ∧ s.clearSource n c = (s.freeEntry i).place ∨
        a.state = .taken ∧ s.clearSource n c = s.putCall i { a with state := .satisfied } ∨
        a.state = .satisfied ∧ s.clearSource n c = s)) ∨
      (∀ i a, s.callAt i = some a → ¬(a.lane = n ∧ a.cause = c)) ∧ s.clearSource n c = s.unmark n c := by
  cases hf : s.findCall n c with
  | some i =>
    obtain ⟨a, ha, hl, hc⟩ := State.findCall_some hf
    refine .inl ⟨i, a, ha, hl, hc, ?_⟩
    cases hst : a.state <;> simp [State.clearSource, hf, ha, hst]
  | none => exact .inr ⟨State.findCall_none.mp hf, by simp [State.clearSource, hf]⟩

/-- What an entry holds once another, or it itself, is freed. -/
theorem State.callAt_freeEntry (s : State) (i j : SlotId) : (s.freeEntry i).callAt j = if j = i then none else s.callAt j := by
  rw [State.callAt, State.freeEntry, State.entry_putEntry]
  split <;> rfl

theorem State.callAt_putCall (s : State) (i j : SlotId) (a : Call) :
    (s.putCall i a).callAt j = if j = i then some a else s.callAt j := by
  split
  · next e => rw [e, State.callAt_putCall_self]
  · next e => exact State.callAt_putCall_ne s i j a e

/-! ### Placement brings the law about (R134, R135) -/

theorem Need.not_before_of_key {x y : Need} (hl : x.lane = y.lane) (hc : x.cause = y.cause) (hk : x.cls = y.cls) :
    ¬x.Before y := by
  rw [Need.before_iff]
  rintro (h | ⟨-, h⟩)
  · exact h.ne hk
  · exact Need.not_ahead_of_key hl hc h

section
variable {s : State}

/-- A lower entry is paired with an earlier need. -/
theorem State.placements_in_order {i j : SlotId} {x y : Need} (hx : (i, x) ∈ s.placements) (hy : (j, y) ∈ s.placements)
    (hij : i < j) : x.Before y := by
  obtain ⟨z, hz, hzy⟩ := zip_before s.freeSlots_pairwise (fun _ _ => lt_asymm) s.needs_pairwise hy
    (List.of_mem_zip hx).1 hij
  have e : some (s.newCall z.lane z.cause z.cls) = some (s.newCall x.lane x.cause x.cls) :=
    (State.callAt_place_of_mem hz).symm.trans (State.callAt_place_of_mem hx)
  have hl := congrArg (Option.map Call.lane) e
  have hc := congrArg (Option.map Call.cause) e
  have hk := congrArg (Option.map Call.cls) e
  obtain ⟨zl, zc, zk⟩ := z
  obtain ⟨xl, xc, xk⟩ := x
  simp only [State.newCall, Option.map_some, Option.some.injEq] at hl hc hk
  rwa [hl, hc, hk] at hzy

/-- No need is placed twice. -/
theorem State.placements_unique {i j : SlotId} {x y : Need} (hx : (i, x) ∈ s.placements) (hy : (j, y) ∈ s.placements)
    (hl : x.lane = y.lane) (hc : x.cause = y.cause) : i = j := by
  have hk : x.cls = y.cls := by
    rw [(State.mem_needs.mp (State.placements_mem hx)).2, (State.mem_needs.mp (State.placements_mem hy)).2]
    exact congrArg₂ s.needClass hl hc
  rcases lt_trichotomy i j with h | h | h
  · exact absurd (State.placements_in_order hx hy h) (Need.not_before_of_key hl hc hk)
  · exact h
  · exact absurd (State.placements_in_order hy hx h) (Need.not_before_of_key hl.symm hc.symm hk.symm)

/-- Placement keeps every source stood for once, and leaves a marker only in a full table. -/
theorem StoodForOnce.place (h : StoodForOnce s) : CallTableLaw s.place := by
  have marked : ∀ {i x}, (i, x) ∈ s.placements → (s.marker x.lane).has x.cause = true := fun hx =>
    (State.mem_needs.mp (State.placements_mem hx)).1
  refine callTableLaw_iff.mpr ⟨⟨fun i j a b ha hb hl hc => ?_, fun n c hn i a ha => ?_⟩, fun n c hn i hi => ?_⟩
  · rcases State.callAt_place ha with ha | ⟨-, x, hx, rfl⟩ <;> rcases State.callAt_place hb with hb | ⟨-, y, hy, rfl⟩
    · exact h.calls i j a b ha hb hl hc
    · exact absurd ⟨hl, hc⟩ (h.markers _ _ (marked hy) i a ha)
    · exact absurd ⟨hl.symm, hc.symm⟩ (h.markers _ _ (marked hx) j b hb)
    · exact State.placements_unique hx hy hl hc
  · obtain ⟨hs, hp⟩ := State.has_place.mp hn
    rcases State.callAt_place ha with ha | ⟨-, x, hx, rfl⟩
    · exact h.markers n c hs i a ha
    · exact hp _ hx
  · rw [State.marker_place_of_free hi, Markers.has_clear] at hn
    cases hn

/-! ### A need met, and calls rewritten in place (R126, R134) -/

variable {n : LaneId} {c : Cause}

theorem CallTableLaw.raiseAt (h : CallTableLaw s) {i : SlotId} (hi : s.callAt i = none)
    (hn : ∀ j a, s.callAt j = some a → ¬(a.lane = n ∧ a.cause = c)) (k : ClassId) : CallTableLaw (s.raiseAt i n c k) := by
  refine ⟨fun j l a b ha hb hl hc => ?_, fun m d hm => ?_⟩
  · rw [State.callAt_raiseAt] at ha hb
    split at ha <;> split at hb
    · simp_all
    · cases ha
      exact absurd ⟨hl.symm, hc.symm⟩ (hn l b hb)
    · cases hb
      exact absurd ⟨hl, hc⟩ (hn j a ha)
    · exact h.1 j l a b ha hb hl hc
  · rw [State.marker_raiseAt, h.unmarked hi] at hm
    cases hm

theorem CallTableLaw.mark (h : CallTableLaw s) (hf : ∀ i, s.callAt i ≠ none)
    (hn : ∀ j a, s.callAt j = some a → ¬(a.lane = n ∧ a.cause = c)) (k : ClassId) : CallTableLaw (s.mark n c k) := by
  refine ⟨h.1, fun m d hm => ?_⟩
  rcases State.has_mark.mp hm with hm | ⟨rfl, rfl⟩
  · exact h.2 m d hm
  · exact ⟨hf, hn⟩

theorem CallTableLaw.need (h : CallTableLaw s) (hn : ∀ j a, s.callAt j = some a → ¬(a.lane = n ∧ a.cause = c)) (k : ClassId) :
    CallTableLaw (s.need n c k) := by
  unfold State.need
  split
  · next i hi => exact h.raiseAt (State.freeSlot_some hi).1 hn k
  · next hf => exact h.mark (State.freeSlot_none.mp hf) hn k

/-- A need that is met brings the call of its own source and no other. -/
theorem State.callAt_need {i : SlotId} {a : Call} {k : ClassId} (h : (s.need n c k).callAt i = some a) :
    s.callAt i = some a ∨ s.callAt i = none ∧ a = s.newCall n c k := by
  unfold State.need at h
  split at h
  · next j hj =>
    rw [State.callAt_raiseAt] at h
    split at h
    · next e =>
      cases h
      exact .inr ⟨e ▸ (State.freeSlot_some hj).1, rfl⟩
    · exact .inl h
  · exact .inl h

/-- Needs of different sources, none of which has a call, are met one after the other. -/
theorem CallTableLaw.foldl_need {l : List Need} (hl : l.Pairwise fun x y => ¬(x.lane = y.lane ∧ x.cause = y.cause))
    (h : CallTableLaw s) (hn : ∀ x ∈ l, ∀ j a, s.callAt j = some a → ¬(a.lane = x.lane ∧ a.cause = x.cause)) :
    CallTableLaw (l.foldl (fun t x => t.need x.lane x.cause x.cls) s) := by
  induction l generalizing s with
  | nil => exact h
  | cons x l ih =>
    obtain ⟨hx, hl⟩ := List.pairwise_cons.mp hl
    refine ih hl (h.need (hn x List.mem_cons_self) x.cls) fun y hy j a ha => ?_
    rcases State.callAt_need ha with ha | ⟨-, rfl⟩
    · exact hn y (List.mem_cons_of_mem _ hy) j a ha
    · exact hx y hy

/-- The needs that a sweep collects, in the placement order. -/
def State.sweptAll (s : State) (lanes : List LaneId) : List Need :=
  placementOrder (lanes.flatMap s.sweptNeeds)

theorem State.mem_sweptAll {lanes : List LaneId} {x : Need} :
    x ∈ s.sweptAll lanes ↔ x.lane ∈ lanes ∧ s.unmet x.lane x.cause = true ∧ x.cls = s.needClass x.lane x.cause := by
  simp only [State.sweptAll, mem_placementOrder, List.mem_flatMap, State.mem_sweptNeeds]
  constructor
  · rintro ⟨m, hm, rfl, h⟩
    exact ⟨hm, h⟩
  · rintro ⟨hm, h⟩
    exact ⟨_, hm, rfl, h⟩

theorem State.sweptAll_pairwise (s : State) {lanes : List LaneId} (hl : lanes.Pairwise (· < ·)) :
    (s.sweptAll lanes).Pairwise Need.Before :=
  placementOrder_pairwise (pairwise_flatMap_lanes hl (fun _ _ hx => (State.mem_sweptNeeds.mp hx).1) s.sweptNeeds_pairwise)

theorem State.sweptAll_distinct (s : State) {lanes : List LaneId} (hl : lanes.Pairwise (· < ·)) :
    (s.sweptAll lanes).Pairwise fun x y => ¬(x.lane = y.lane ∧ x.cause = y.cause) := by
  refine (s.sweptAll_pairwise hl).imp_of_mem fun {x y} hx hy hxy hk => ?_
  have hcls : x.cls = y.cls := by
    rw [(State.mem_sweptAll.mp hx).2.2, (State.mem_sweptAll.mp hy).2.2, hk.1, hk.2]
  exact Need.not_before_of_key hk.1 hk.2 hcls hxy

theorem CallTableLaw.sweep (h : CallTableLaw s) {lanes : List LaneId} (hl : lanes.Pairwise (· < ·)) :
    CallTableLaw (s.sweep lanes) :=
  h.foldl_need (s.sweptAll_distinct hl) fun _ hx => by
    obtain ⟨-, hu, -⟩ := State.mem_sweptAll.mp hx
    obtain ⟨-, -, hn, -⟩ := State.unmet_iff.mp hu
    exact hn

end
end Sys2Proof.Machine
end

section
/-! SUPPORT. What an operation of the call controller makes of the calls: the laws of the table, the life of a call in its entry, and
the agreement of the calls and markers with their sources (R125 to R135). -/

namespace Sys2Proof.Machine

/-! ### A call living in its entry (R124, R125, R128) -/

/-- `b` is `a` later in its life: about the same lane and cause, raised at the same tick, and at least as urgent. -/
structure Call.GoesOn (a b : Call) : Prop where
  cls       : b.cls ≤ a.cls
  lane      : b.lane = a.lane
  cause     : b.cause = a.cause
  raiseTick : b.raiseTick = a.raiseTick

theorem Call.GoesOn.refl (a : Call) : a.GoesOn a := ⟨le_rfl, rfl, rfl, rfl⟩

theorem Call.GoesOn.trans {a b c : Call} (h : a.GoesOn b) (k : b.GoesOn c) : a.GoesOn c :=
  ⟨k.cls.trans h.cls, k.lane.trans h.lane, k.cause.trans h.cause, k.raiseTick.trans h.raiseTick⟩

/-- The entry `f` comes of `e` and was freed at most `k` times on the way, each time with its generation advanced; if it was not
freed, a call that `e` holds goes on in `f`. -/
def CallEntry.Runs (k : Nat) (e f : CallEntry) : Prop :=
  ∃ d ≤ k, f.generation = e.generation + BitVec.ofNat 8 d ∧ (d = 0 → ∀ a, e.call = some a → ∃ b, f.call = some b ∧ a.GoesOn b)

theorem CallEntry.Runs.refl (e : CallEntry) : CallEntry.Runs 0 e e :=
  ⟨0, le_rfl, by simp, fun _ a ha => ⟨a, ha, .refl a⟩⟩

theorem CallEntry.Runs.mono {j k : Nat} (h : j ≤ k) {e f : CallEntry} (he : CallEntry.Runs j e f) : CallEntry.Runs k e f := by
  obtain ⟨d, hd, hrest⟩ := he
  exact ⟨d, hd.trans h, hrest⟩

theorem CallEntry.Runs.trans {j k : Nat} {e f g : CallEntry} (h : CallEntry.Runs j e f) (h' : CallEntry.Runs k f g) :
    CallEntry.Runs (j + k) e g := by
  obtain ⟨d, hd, hg, hc⟩ := h
  obtain ⟨d', hd', hg', hc'⟩ := h'
  refine ⟨d + d', Nat.add_le_add hd hd', by rw [hg', hg, BitVec.ofNat_add, BitVec.add_assoc], fun h0 a ha => ?_⟩
  obtain ⟨b, hb, hab⟩ := hc (by omega) a ha
  obtain ⟨c, hc, hbc⟩ := hc' (by omega) b hb
  exact ⟨c, hc, hab.trans hbc⟩

/-- An entry whose generation has not advanced was not freed: 256 frees would be needed to bring the generation round. -/
theorem CallEntry.Runs.goesOn {k : Nat} (hk : k < 256) {e f : CallEntry} (h : CallEntry.Runs k e f)
    (hg : f.generation = e.generation) {a b : Call} (ha : e.call = some a) (hb : f.call = some b) : a.GoesOn b := by
  obtain ⟨d, hd, hgen, hc⟩ := h
  have hd0 : d = 0 := by
    rw [hg] at hgen
    have : (BitVec.ofNat 8 d).toNat = 0 := by bv_omega
    rw [BitVec.toNat_ofNat] at this
    omega
  obtain ⟨b', hb', hab⟩ := hc hd0 a ha
  rw [hb, Option.some.injEq] at hb'
  exact hb' ▸ hab

/-- A call written over another, the generation standing. -/
theorem CallEntry.runs_of_goesOn {e f : CallEntry} (hg : f.generation = e.generation)
    (hc : ∀ a, e.call = some a → ∃ b, f.call = some b ∧ a.GoesOn b) : CallEntry.Runs 0 e f :=
  ⟨0, le_rfl, by simpa using hg, fun _ => hc⟩

/-! ### What a lane's sources say of calls and markers (R129, R131, R134) -/

/-- Does a call of this cause in this state agree with the lane's source? -/
def Lane.Supports (l : Lane) (c : Cause) (st : CallState) : Prop :=
  match c with
  | .restock => (st = .satisfied → l.committed.level = .ok) ∧ (st ≠ .satisfied → sourceAsserted l .restock = true)
  | .fault => st = .satisfied ↔ sourceAsserted l .fault = false
  | .watch => st ≠ .satisfied

/-- Every call agrees with its source, and a RESTOCK or FAULT marker stands for an asserted one, the lanes being `v`: the lanes as
the call controller has been told of them, which lag behind a lane that has changed until the change is handed on. -/
structure Sourced (v : LaneId → Lane) (s : State) : Prop where
  calls   : ∀ i a, s.callAt i = some a → (v a.lane).Supports a.cause a.state
  markers : ∀ n c, c ≠ .watch → (s.marker n).has c = true → sourceAsserted (v n) c = true

theorem callSourceLaw_iff {s : State} :
    CallSourceLaw s ↔ ∀ i a, s.callAt i = some a → (s.lane a.lane).Supports a.cause a.state := by
  refine forall_congr' fun i => forall_congr' fun a => imp_congr_right fun _ => ?_
  cases h : a.cause <;> simp [Lane.Supports, sourceAsserted]

theorem markerSourceLaw_iff {s : State} :
    MarkerSourceLaw s ↔ ∀ n c, c ≠ .watch → (s.marker n).has c = true → sourceAsserted (s.lane n) c = true := by
  refine forall_congr' fun n => ⟨fun ⟨hr, hf⟩ c hc h => ?_, fun h => ⟨fun hr => ?_, fun hf => ?_⟩⟩
  · cases c with
    | restock => simpa [sourceAsserted] using hr h
    | fault => simpa [sourceAsserted] using hf h
    | watch => exact absurd rfl hc
  · simpa [sourceAsserted] using h .restock (by decide) hr
  · simpa [sourceAsserted] using h .fault (by decide) hf

theorem sourced_iff {s : State} : Sourced s.lane s ↔ CallSourceLaw s ∧ MarkerSourceLaw s := by
  rw [callSourceLaw_iff, markerSourceLaw_iff]
  exact ⟨fun h => ⟨h.calls, h.markers⟩, fun h => ⟨h.1, h.2⟩⟩

/-- A call that is not SATISFIED agrees with an asserted source, and with a WATCH source always. -/
theorem Lane.supports_live {l : Lane} {c : Cause} (h : c = .watch ∨ sourceAsserted l c = true) {st : CallState}
    (hst : st ≠ .satisfied) : l.Supports c st := by
  cases c with
  | restock => exact ⟨fun e => absurd e hst, fun _ => h.resolve_left (by decide)⟩
  | fault => simp [Lane.Supports, hst, h.resolve_left (by decide)]
  | watch => exact hst

theorem Lane.asserted_of_supports {l : Lane} {c : Cause} {st : CallState} (h : l.Supports c st) (hst : st ≠ .satisfied) :
    c = .watch ∨ sourceAsserted l c = true := by
  cases c with
  | restock => exact .inr (h.2 hst)
  | fault => exact .inr (by simpa using mt h.mpr hst)
  | watch => exact .inl rfl

/-- What agrees with the source `c` of `l` agrees with that of `m`. -/
structure Lane.Sustains (l m : Lane) (c : Cause) : Prop where
  supports : ∀ st, l.Supports c st → m.Supports c st
  asserted : sourceAsserted l c = true → sourceAsserted m c = true

theorem Lane.Sustains.refl (l : Lane) (c : Cause) : l.Sustains l c := ⟨fun _ => id, id⟩

theorem Lane.Sustains.trans {l m k : Lane} {c : Cause} (h : l.Sustains m c) (h' : m.Sustains k c) : l.Sustains k c :=
  ⟨fun st => h'.supports st ∘ h.supports st, h'.asserted ∘ h.asserted⟩

/-- The RESTOCK source follows from the level alone. -/
theorem Lane.sustains_restock {l m : Lane} (h : m.committed.level = l.committed.level) : l.Sustains m .restock := by
  constructor <;> simp [Lane.Supports, sourceAsserted, h]

theorem Lane.sustains_fault {l m : Lane} (h : m.faultAsserted = l.faultAsserted) : l.Sustains m .fault := by
  have e : sourceAsserted m .fault = sourceAsserted l .fault := h
  constructor <;> simp [Lane.Supports, e]

theorem Lane.sustains_watch (l m : Lane) : l.Sustains m .watch := ⟨fun _ => id, nofun⟩

theorem Lane.sustains_of_eq (l m : Lane) (hl : m.committed.level = l.committed.level) (hf : m.faultAsserted = l.faultAsserted)
    (c : Cause) : l.Sustains m c := by
  cases c with
  | restock => exact Lane.sustains_restock hl
  | fault => exact Lane.sustains_fault hf
  | watch => exact Lane.sustains_watch l m

/-- A level NONE agrees with no RESTOCK call and no marker. -/
theorem Lane.sustains_of_none {l : Lane} (h : l.committed.level = .none) (m : Lane) : l.Sustains m .restock := by
  refine ⟨fun st hst => ?_, fun ha => by simp [sourceAsserted, h] at ha⟩
  by_cases e : st = .satisfied
  · exact absurd (hst.1 e) (by simp [h])
  · exact absurd (hst.2 e) (by simp [sourceAsserted, h])

/-- While the RESTOCK source stays asserted its calls agree with it. -/
theorem Lane.sustains_of_asserted {l m : Lane} (hl : sourceAsserted l .restock = true) (hm : sourceAsserted m .restock = true) :
    l.Sustains m .restock := by
  refine ⟨fun st hst => Lane.supports_live (.inr hm) fun e => ?_, fun _ => hm⟩
  rw [sourceAsserted, hst.1 e] at hl
  cases hl

/-- A lane rewritten so that it sustains its sources but `c`: so do the lanes as a whole. -/
theorem State.sustains_putLane {s : State} {n : LaneId} {l : Lane} {p : Cause → Prop}
    (h : ∀ d, ¬p d → (s.lane n).Sustains l d) (m : LaneId) (d : Cause) (hd : ¬(m = n ∧ p d)) :
    (s.lane m).Sustains ((s.putLane n l).lane m) d := by
  rw [State.lane_putLane]
  split
  · next e =>
    subst e
    exact h d fun hp => hd ⟨rfl, hp⟩
  · exact .refl _ _

section
variable {v w : LaneId → Lane} {s t : State} {n : LaneId} {c : Cause}

/-- Calls and markers that were there before, or agree with their sources. -/
theorem Sourced.mend (h : Sourced v s) (hv : ∀ m d, ¬(m = n ∧ d = c) → (v m).Sustains (w m) d)
    (hc : ∀ i a, t.callAt i = some a →
      (s.callAt i = some a ∧ ¬(a.lane = n ∧ a.cause = c)) ∨ (w a.lane).Supports a.cause a.state)
    (hm : ∀ m d, (t.marker m).has d = true →
      ((s.marker m).has d = true ∧ ¬(m = n ∧ d = c)) ∨ d = .watch ∨ sourceAsserted (w m) d = true) : Sourced w t where
  calls i a ha := by
    rcases hc i a ha with ⟨hs, hk⟩ | hw
    · exact (hv _ _ hk).supports _ (h.calls i a hs)
    · exact hw
  markers m d hd hn := by
    rcases hm m d hn with ⟨hs, hk⟩ | e | ha
    · exact (hv _ _ hk).asserted (h.markers m d hd hs)
    · exact absurd e hd
    · exact ha

theorem Sourced.sustained (h : Sourced v s) (hv : ∀ m d, (v m).Sustains (w m) d) : Sourced w s where
  calls i a ha := (hv _ _).supports _ (h.calls i a ha)
  markers m d hd hn := (hv _ _).asserted (h.markers m d hd hn)

/-- A set marker's source, told by the lanes, supports the call that is placed for it. -/
theorem Sourced.asserted_of_marker (h : Sourced v s) (hn : (s.marker n).has c = true) :
    c = .watch ∨ sourceAsserted (v n) c = true := by
  by_cases e : c = .watch
  · exact .inl e
  · exact .inr (h.markers n c e hn)

theorem Sourced.place (h : Sourced v s) : Sourced v s.place where
  calls i a ha := by
    rcases State.callAt_place ha with ha | ⟨-, x, hx, rfl⟩
    · exact h.calls i a ha
    · exact Lane.supports_live (h.asserted_of_marker (State.mem_needs.mp (State.placements_mem hx)).1) (by simp [State.newCall])
  markers m d hd hn := h.markers m d hd (State.has_place.mp hn).1

theorem Sourced.of_fewer (h : Sourced v s) (hc : ∀ i a, t.callAt i = some a → s.callAt i = some a)
    (hm : ∀ n c, (t.marker n).has c = true → (s.marker n).has c = true) : Sourced v t where
  calls i a ha := h.calls i a (hc i a ha)
  markers m d hd hn := h.markers m d hd (hm m d hn)

/-- A need of an asserted source is met. -/
theorem Sourced.need (h : Sourced v s) (hv : ∀ m d, ¬(m = n ∧ d = c) → (v m).Sustains (w m) d)
    (ha : c = .watch ∨ sourceAsserted (w n) c = true) (hn : ∀ j a, s.callAt j = some a → ¬(a.lane = n ∧ a.cause = c))
    (k : ClassId) : Sourced w (s.need n c k) := by
  refine h.mend hv (fun i a hi => ?_) fun m d hm => ?_
  · rcases State.callAt_need hi with hi | ⟨-, rfl⟩
    · exact .inl ⟨hi, hn i a hi⟩
    · exact .inr (Lane.supports_live ha (by simp [State.newCall]))
  · by_cases e : m = n ∧ d = c
    · obtain ⟨rfl, rfl⟩ := e
      exact .inr ha
    · refine .inl ⟨?_, e⟩
      unfold State.need at hm
      split at hm
      · simpa using hm
      · exact (State.has_mark.mp hm).resolve_right fun ⟨h1, h2⟩ => e ⟨h1.symm, h2.symm⟩

/-- Needs of different asserted sources, none of which has a call, are met one after the other. -/
theorem Sourced.foldl_need {l : List Need} (h : Sourced v s) (hl : l.Pairwise fun x y => ¬(x.lane = y.lane ∧ x.cause = y.cause))
    (hn : ∀ x ∈ l, ∀ i a, s.callAt i = some a → ¬(a.lane = x.lane ∧ a.cause = x.cause))
    (ha : ∀ x ∈ l, sourceAsserted (v x.lane) x.cause = true) :
    Sourced v (l.foldl (fun t x => t.need x.lane x.cause x.cls) s) := by
  induction l generalizing s with
  | nil => exact h
  | cons x l ih =>
    obtain ⟨hx, hl⟩ := List.pairwise_cons.mp hl
    refine ih (h.need (fun _ _ _ => .refl _ _) (.inr (ha x List.mem_cons_self)) (hn x List.mem_cons_self) x.cls) hl
      (fun y hy i a hi => ?_) fun y hy => ha y (List.mem_cons_of_mem _ hy)
    rcases State.callAt_need hi with hi | ⟨-, rfl⟩
    · exact hn y (List.mem_cons_of_mem _ hy) i a hi
    · exact hx y hy

/-- An assertion brings no call to SATISFIED (R127, R130). -/
theorem Call.asserted_ne_satisfied (a : Call) (k : ClassId) : (a.asserted k).state ≠ .satisfied := by
  unfold Call.asserted
  split
  · next h => simp [Call.offered, h]
  · next h => split <;> simp [Call.offered, h]
  · simp

/-- The markers that stand agree with their sources where `c` of lane `n` is a WATCH source or asserted. -/
theorem markers_stand (ha : c = .watch ∨ sourceAsserted (w n) c = true) (m : LaneId) (d : Cause)
    (hm : (s.marker m).has d = true) :
    ((s.marker m).has d = true ∧ ¬(m = n ∧ d = c)) ∨ d = .watch ∨ sourceAsserted (w m) d = true := by
  by_cases e : m = n ∧ d = c
  · obtain ⟨rfl, rfl⟩ := e
    exact .inr ha
  · exact .inl ⟨hm, e⟩

/-- A call rewritten over that of the source `c` of lane `n`, and agreeing with it: the others are of other sources. -/
theorem Sourced.putCall (h : Sourced v s) (hd : CallsDistinct s) (hv : ∀ m d, ¬(m = n ∧ d = c) → (v m).Sustains (w m) d)
    (hm : ∀ m d, (s.marker m).has d = true →
      ((s.marker m).has d = true ∧ ¬(m = n ∧ d = c)) ∨ d = .watch ∨ sourceAsserted (w m) d = true)
    {i : SlotId} {a b : Call} (ha : s.callAt i = some a) (hl : a.lane = n) (hc : a.cause = c) (hbl : b.lane = n) (hbc : b.cause = c)
    (hb : (w n).Supports c b.state) : Sourced w (s.putCall i b) := by
  refine h.mend hv (fun j x hx => ?_) hm
  rw [State.callAt_putCall] at hx
  split at hx
  · cases hx
    exact .inr (hbl ▸ hbc ▸ hb)
  · next e => exact .inl ⟨hx, fun hk => e (hd j i x a hx ha (hk.1.trans hl.symm) (hk.2.trans hc.symm))⟩

theorem Sourced.assertSource (h : Sourced v s) (ht : CallTableLaw s) (hv : ∀ m d, ¬(m = n ∧ d = c) → (v m).Sustains (w m) d)
    (ha : c = .watch ∨ sourceAsserted (w n) c = true) (k : ClassId) : Sourced w (s.assertSource n c k) := by
  rcases s.assertSource_cases n c k with ⟨i, a, hai, hl, hc, e⟩ | ⟨hn, ⟨-, e⟩ | ⟨-, -, e⟩ | ⟨-, -, e⟩⟩ <;> rw [e]
  · exact h.putCall ht.1 hv (markers_stand ha) hai hl hc (by simpa using hl) (by simpa using hc)
      (Lane.supports_live ha (a.asserted_ne_satisfied k))
  · refine h.mend hv (fun i a hi => .inl ⟨hi, hn i a hi⟩) fun m d hm => ?_
    rcases State.has_mark.mp hm with hm | ⟨rfl, rfl⟩
    · exact markers_stand ha m d hm
    · exact .inr ha
  · exact h.need hv ha hn k
  · exact h.mend hv (fun i a hi => .inl ⟨hi, hn i a hi⟩) (markers_stand ha)

/-- R129: a clearance leaves its source with a SATISFIED call at most. -/
theorem Sourced.clearSource (h : Sourced v s) (ht : CallTableLaw s) (hv : ∀ m d, ¬(m = n ∧ d = c) → (v m).Sustains (w m) d)
    (hq : (w n).Supports c .satisfied) : Sourced w (s.clearSource n c) := by
  rcases s.clearSource_cases n c with ⟨i, a, hai, hl, hc, hst⟩ | ⟨hn, e⟩
  · have stand : ∀ m d, (s.marker m).has d = true →
        ((s.marker m).has d = true ∧ ¬(m = n ∧ d = c)) ∨ d = .watch ∨ sourceAsserted (w m) d = true := fun m d hm =>
      .inl ⟨hm, fun e => ht.stoodForOnce.markers m d hm i a hai ⟨hl.trans e.1.symm, hc.trans e.2.symm⟩⟩
    rcases hst with ⟨-, e⟩ | ⟨-, e⟩ | ⟨hst, e⟩ <;> rw [e]
    · refine (h.mend (t := s.freeEntry i) hv (fun j b hb => ?_) stand).place
      rw [State.callAt_freeEntry] at hb
      split at hb
      · cases hb
      · next e => exact .inl ⟨hb, fun hk => e (ht.1 j i b a hb hai (hk.1.trans hl.symm) (hk.2.trans hc.symm))⟩
    · exact h.putCall ht.1 hv stand hai hl hc hl hc hq
    · rw [← State.putCall_eq_self hai]
      exact h.putCall ht.1 hv stand hai hl hc hl hc (hst ▸ hq)
  · rw [e]
    refine h.mend hv (fun j b hb => .inl ⟨hb, hn j b hb⟩) fun m d hm => ?_
    obtain ⟨hm, hk⟩ := State.has_unmark.mp hm
    exact .inl ⟨hm, fun e => hk ⟨e.1.symm, e.2.symm⟩⟩

end
end Sys2Proof.Machine
end

section
/-! SUPPORT. The call controller's operations as runs: what O55, O59 and O60 ask of a step, kept together, operation by operation. -/

namespace Sys2Proof.Machine

/-! ### Runs of the call controller -/

/-- From `s`, the lanes it knows being `v`, the call controller comes to `t`, the lanes it knows being `w`: the laws of the table are
kept, every entry was freed at most `k` times, and calls and markers agree with their sources as before. -/
structure CallsRun (k : Nat) (s : State) (v : LaneId → Lane) (t : State) (w : LaneId → Lane) : Prop where
  table   : CallTableLaw s → CallTableLaw t
  lives   : ∀ i, CallEntry.Runs k (s.entry i) (t.entry i)
  sources : CallTableLaw s → Sourced v s → Sourced w t

/-- A run from lanes as they stand to lanes as they stand. -/
abbrev CallsGoOn (k : Nat) (s t : State) : Prop :=
  CallsRun k s s.lane t t.lane

section
variable {s t u : State} {v w x : LaneId → Lane} {j k : Nat}

theorem CallsRun.trans (h : CallsRun j s v t w) (h' : CallsRun k t w u x) : CallsRun (j + k) s v u x where
  table := h'.table ∘ h.table
  lives i := (h.lives i).trans (h'.lives i)
  sources ht hs := h'.sources (h.table ht) (h.sources ht hs)

theorem CallsRun.mono (hjk : j ≤ k) (h : CallsRun j s v t w) : CallsRun k s v t w :=
  ⟨h.table, fun i => (h.lives i).mono hjk, h.sources⟩

/-- The lanes that the call controller knows at the end are those of the state. -/
theorem CallsRun.told (h : CallsRun k s v t w) (hw : ∀ n, t.lane n = w n) : CallsRun k s v t t.lane := by
  have e : State.lane t = w := funext hw
  rwa [e]

/-- Neither calls nor markers are written, and the sources are sustained. -/
theorem CallsRun.of_tables (hc : t.calls = s.calls) (hm : t.markers = s.markers) (hv : ∀ n c, (v n).Sustains (w n) c) :
    CallsRun 0 s v t w := by
  have ee : ∀ i, t.entry i = s.entry i := fun i => by simp only [State.entry, hc]
  have ec : ∀ i, t.callAt i = s.callAt i := fun i => by rw [State.callAt, ee, ← State.callAt]
  have em : ∀ n, t.marker n = s.marker n := fun n => by simp only [State.marker, hm]
  refine ⟨?_, fun i => ee i ▸ .refl _, fun _ h => (h.sustained hv).of_fewer (fun i a => by rw [ec]; exact id)
    fun n c => by rw [em]; exact id⟩
  simp only [CallTableLaw, CallsDistinct, MarkersLaw, ec, em, imp_self]

theorem CallsRun.refl (s : State) (v : LaneId → Lane) : CallsRun 0 s v s v := .of_tables rfl rfl fun _ _ => .refl _ _

theorem CallsGoOn.trans (h : CallsGoOn j s t) (h' : CallsGoOn k t u) : CallsGoOn (j + k) s u := CallsRun.trans h h'

theorem CallsGoOn.mono (hjk : j ≤ k) (h : CallsGoOn j s t) : CallsGoOn k s t := CallsRun.mono hjk h

/-- Lanes rewritten under sources that they sustain. -/
theorem CallsGoOn.of_lanes (hc : t.calls = s.calls) (hm : t.markers = s.markers)
    (hv : ∀ n c, (s.lane n).Sustains (t.lane n) c) : CallsGoOn 0 s t := CallsRun.of_tables hc hm hv

theorem CallsGoOn.refl (s : State) : CallsGoOn 0 s s := CallsRun.refl s s.lane

theorem CallsGoOn.putLane {n : LaneId} {l : Lane} (h : ∀ c, (s.lane n).Sustains l c) : CallsGoOn 0 s (s.putLane n l) :=
  .of_lanes rfl rfl fun m c => State.sustains_putLane (p := fun _ => False) (fun d _ => h d) m c (by simp)

/-- A lane rewritten, the call controller not yet told. -/
theorem CallsRun.untold (s : State) (v : LaneId → Lane) (n : LaneId) (l : Lane) : CallsRun 0 s v (s.putLane n l) v :=
  .of_tables rfl rfl fun _ _ => .refl _ _

/-! ### Calls rewritten in place (R127, R128, R140, R141, R153) -/

/-- A call rewritten: it goes on, and agrees with its source as it did. -/
structure Call.Rewritten (l : Lane) (a b : Call) : Prop where
  goesOn   : a.GoesOn b
  supports : l.Supports a.cause a.state → l.Supports a.cause b.state

theorem Call.Rewritten.refl (l : Lane) (a : Call) : a.Rewritten l a := ⟨.refl a, id⟩

theorem Call.Rewritten.of_state {l : Lane} {a b : Call} (h : a.GoesOn b) (hs : b.state = a.state) : a.Rewritten l b :=
  ⟨h, by rw [hs]; exact id⟩

theorem exists_rel_left {α : Type} {r : α → α → Prop} {o : Option α} {b : α} (h : Option.Rel r o (some b)) :
    ∃ a, o = some a ∧ r a b := by
  cases h with
  | some h => exact ⟨_, rfl, h⟩

theorem exists_rel_right {α : Type} {r : α → α → Prop} {o : Option α} {a : α} (h : Option.Rel r (some a) o) :
    ∃ b, o = some b ∧ r a b := by
  cases h with
  | some h => exact ⟨_, rfl, h⟩

theorem rel_imp {α : Type} {r q : α → α → Prop} (hrq : ∀ a b, r a b → q a b) {o o' : Option α} (h : Option.Rel r o o') :
    Option.Rel q o o' := by
  cases h with
  | some h => exact .some (hrq _ _ h)
  | none => exact .none

theorem eq_none_of_rel {α : Type} {r : α → α → Prop} {o : Option α} (h : Option.Rel r o none) : o = none := by
  cases h
  rfl

/-- The law of the table reads of a call only its lane and cause. -/
theorem CallTableLaw.rewritten (h : CallTableLaw s) (hm : ∀ n c, (t.marker n).has c = true → (s.marker n).has c = true)
    (hc : ∀ i, Option.Rel Call.GoesOn (s.callAt i) (t.callAt i)) : CallTableLaw t := by
  have back : ∀ {i b}, t.callAt i = some b → ∃ a, s.callAt i = some a ∧ a.lane = b.lane ∧ a.cause = b.cause := fun {i b} hb => by
    obtain ⟨a, ha, hab⟩ := exists_rel_left (hb ▸ hc i)
    exact ⟨a, ha, hab.lane.symm, hab.cause.symm⟩
  refine ⟨fun i j a b ha hb hl hk => ?_, fun n c hn => ⟨fun i hi => ?_, fun i b hb hk => ?_⟩⟩
  · obtain ⟨a', ha', hal, hac⟩ := back ha
    obtain ⟨b', hb', hbl, hbc⟩ := back hb
    exact h.1 i j a' b' ha' hb' (by rw [hal, hbl, hl]) (by rw [hac, hbc, hk])
  · exact (h.2 n c (hm n c hn)).1 i (eq_none_of_rel (hi ▸ hc i))
  · obtain ⟨a, ha, hl, hc⟩ := back hb
    exact (h.2 n c (hm n c hn)).2 i a ha ⟨hl.trans hk.1, hc.trans hk.2⟩

/-- Every call rewritten in its entry, markers and generations standing. -/
theorem CallsRun.rewritten (hm : ∀ n, t.marker n = s.marker n) (hg : ∀ i, (t.entry i).generation = (s.entry i).generation)
    (hc : ∀ i, Option.Rel (fun a b => a.Rewritten (v a.lane) b) (s.callAt i) (t.callAt i)) : CallsRun 0 s v t v := by
  refine ⟨fun h => h.rewritten (fun n c => by rw [hm]; exact id) fun i => rel_imp (fun _ _ hab => hab.goesOn) (hc i),
    fun i => CallEntry.runs_of_goesOn (hg i) fun a ha => ?_,
    fun _ h => ⟨fun i b hb => ?_, fun n c hn hs => h.markers n c hn (by rwa [hm] at hs)⟩⟩
  · obtain ⟨b, hb, hab⟩ := exists_rel_right ((show s.callAt i = some a from ha) ▸ hc i)
    exact ⟨b, hb, hab.goesOn⟩
  · obtain ⟨a, ha, hab⟩ := exists_rel_left (hb ▸ hc i)
    rw [hab.goesOn.lane, hab.goesOn.cause]
    exact hab.supports (h.calls i a ha)

theorem State.generation_putCall (s : State) (i j : SlotId) (a : Call) :
    ((s.putCall i a).entry j).generation = (s.entry j).generation := by
  rw [State.putCall, State.entry_putEntry]
  split
  · next e => rw [e]
  · rfl

theorem CallsRun.putCall {i : SlotId} {a b : Call} (ha : s.callAt i = some a) (h : a.Rewritten (v a.lane) b) :
    CallsRun 0 s v (s.putCall i b) v := by
  refine .rewritten (fun _ => rfl) (s.generation_putCall i · b) fun j => ?_
  rw [State.callAt_putCall]
  split
  · next e =>
    rw [e, ha]
    exact .some h
  · cases s.callAt j with
    | none => exact .none
    | some c => exact .some (.refl _ c)

/-! ### Lives through the operations (R124) -/

variable {n : LaneId} {c : Cause}

theorem State.runs_of_generation {i : SlotId} (hg : (t.entry i).generation = (s.entry i).generation)
    (hc : ∀ a, s.callAt i = some a → t.callAt i = some a) : CallEntry.Runs 0 (s.entry i) (t.entry i) :=
  CallEntry.runs_of_goesOn hg fun a ha => ⟨a, hc a ha, .refl a⟩

theorem State.runs_place (s : State) (i : SlotId) : CallEntry.Runs 0 (s.entry i) (s.place.entry i) :=
  State.runs_of_generation (s.generation_place i) fun _ => State.callAt_place_of_some

theorem State.runs_need (s : State) (n : LaneId) (c : Cause) (k : ClassId) (i : SlotId) :
    CallEntry.Runs 0 (s.entry i) ((s.need n c k).entry i) := by
  unfold State.need
  split
  · next j hj =>
    refine State.runs_of_generation (s.generation_raiseAt j i n c k) fun a ha => ?_
    rw [State.callAt_raiseAt, if_neg, ha]
    intro e
    rw [e, (State.freeSlot_some hj).1] at ha
    cases ha
  · exact .refl _

theorem State.runs_foldl_need (l : List Need) (s : State) (i : SlotId) :
    CallEntry.Runs 0 (s.entry i) ((l.foldl (fun t x => t.need x.lane x.cause x.cls) s).entry i) := by
  induction l generalizing s with
  | nil => exact .refl _
  | cons x l ih => exact (s.runs_need x.lane x.cause x.cls i).trans (ih _)

/-- An entry freed or left: freed, its generation advances by one. -/
theorem CallEntry.runs_freed {e f : CallEntry} (h : f = e ∨ f = { generation := e.generation + 1, call := none }) :
    CallEntry.Runs 1 e f := by
  rcases h with rfl | rfl
  · exact (CallEntry.Runs.refl _).mono (by decide)
  · exact ⟨1, le_rfl, rfl, fun h => by cases h⟩

theorem Call.goesOn_asserted (a : Call) (k : ClassId) : a.GoesOn (a.asserted k) where
  cls := by rw [Call.asserted_cls]; exact min_le_left _ _
  lane := a.asserted_lane k
  cause := a.asserted_cause k
  raiseTick := by
    unfold Call.asserted
    split
    · rfl
    · split <;> rfl
    · rfl

theorem State.goesOn_putCall {i : SlotId} {a b : Call} (ha : s.callAt i = some a) (h : a.GoesOn b) (j : SlotId) :
    Option.Rel Call.GoesOn (s.callAt j) ((s.putCall i b).callAt j) := by
  rw [State.callAt_putCall]
  split
  · next e =>
    rw [e, ha]
    exact .some h
  · cases s.callAt j with
    | none => exact .none
    | some c => exact .some (.refl c)

theorem State.runs_putCall {i : SlotId} {a b : Call} (ha : s.callAt i = some a) (h : a.GoesOn b) (j : SlotId) :
    CallEntry.Runs 0 (s.entry j) ((s.putCall i b).entry j) := by
  refine CallEntry.runs_of_goesOn (s.generation_putCall i j b) fun x hx => ?_
  exact exists_rel_right ((show s.callAt j = some x from hx) ▸ State.goesOn_putCall ha h j)

/-! ### Assertions, clearances, offers and sweeps as runs (R126 to R135, R145) -/

theorem CallsRun.assertSource (hv : ∀ m d, ¬(m = n ∧ d = c) → (v m).Sustains (w m) d)
    (ha : c = .watch ∨ sourceAsserted (w n) c = true) (k : ClassId) : CallsRun 0 s v (s.assertSource n c k) w := by
  refine ⟨fun ht => ?_, fun i => ?_, fun ht h => h.assertSource ht hv ha k⟩ <;>
    rcases s.assertSource_cases n c k with ⟨j, a, haj, hl, hc, e⟩ | ⟨hn, ⟨hm, e⟩ | ⟨-, -, e⟩ | ⟨-, -, e⟩⟩ <;> rw [e]
  · exact ht.rewritten (fun _ _ => id) (State.goesOn_putCall haj (a.goesOn_asserted k))
  · exact ht.mark (ht.2 n c hm).1 hn k
  · exact ht.need hn k
  · exact ht
  · exact State.runs_putCall haj (a.goesOn_asserted k) i
  · exact .refl _
  · exact s.runs_need n c k i
  · exact .refl _

theorem State.runs_freeEntry (s : State) (i j : SlotId) : CallEntry.Runs 1 (s.entry j) ((s.freeEntry i).entry j) := by
  refine CallEntry.runs_freed ?_
  rw [State.freeEntry, State.entry_putEntry]
  split
  · next e => exact .inr (by rw [e])
  · exact .inl rfl

theorem State.callAt_of_freeEntry {i j : SlotId} {a : Call} (h : (s.freeEntry i).callAt j = some a) : s.callAt j = some a := by
  rw [State.callAt_freeEntry] at h
  split at h
  · cases h
  · exact h

/-- An entry freed, then placement: CLOSE_CALL's end of a call, and a withdrawal (R129, R135, R142). -/
theorem CallsRun.freePlace (s : State) (v : LaneId → Lane) (i : SlotId) : CallsRun 1 s v (s.freeEntry i).place v where
  table h := (h.stoodForOnce.of_fewer (fun _ _ => State.callAt_of_freeEntry) fun _ _ => id).place
  lives j := (s.runs_freeEntry i j).trans (State.runs_place _ j)
  sources _ h := (h.of_fewer (fun _ _ => State.callAt_of_freeEntry) fun _ _ => id).place

theorem CallsRun.clearSource (hv : ∀ m d, ¬(m = n ∧ d = c) → (v m).Sustains (w m) d) (hq : (w n).Supports c .satisfied) :
    CallsRun 1 s v (s.clearSource n c) w := by
  have satisfied : ∀ a : Call, a.GoesOn { a with state := .satisfied } := fun a => ⟨le_rfl, rfl, rfl, rfl⟩
  refine ⟨fun ht => ?_, fun i => ?_, fun ht h => h.clearSource ht hv hq⟩ <;>
    rcases s.clearSource_cases n c with ⟨j, a, haj, -, -, ⟨-, e⟩ | ⟨-, e⟩ | ⟨-, e⟩⟩ | ⟨-, e⟩ <;> rw [e]
  · exact (CallsRun.freePlace s v j).table ht
  · exact ht.rewritten (fun _ _ => id) (State.goesOn_putCall haj (satisfied a))
  · exact ht
  · exact callTableLaw_iff.mpr ⟨ht.stoodForOnce.of_fewer (fun _ _ => id) fun _ _ h => (State.has_unmark.mp h).1,
      fun m d h => (callTableLaw_iff.mp ht).2 m d (State.has_unmark.mp h).1⟩
  · exact (CallsRun.freePlace s v j).lives i
  · exact (State.runs_putCall haj (satisfied a) i).mono (by decide)
  · exact (CallEntry.Runs.refl _).mono (by decide)
  · exact (CallEntry.Runs.refl _).mono (by decide)

theorem CallsRun.offerClass (s : State) (v : LaneId → Lane) (n : LaneId) (c : Cause) (k : ClassId) :
    CallsRun 0 s v (s.offerClass n c k) v := by
  unfold State.offerClass
  split
  · split
    · next a ha => exact .putCall ha (.of_state ⟨min_le_left _ _, rfl, rfl, rfl⟩ rfl)
    · exact .refl s v
  · exact .refl s v

theorem CallsRun.foldl_need {l : List Need} (hl : l.Pairwise fun x y => ¬(x.lane = y.lane ∧ x.cause = y.cause))
    (hn : ∀ x ∈ l, ∀ i a, s.callAt i = some a → ¬(a.lane = x.lane ∧ a.cause = x.cause))
    (ha : ∀ x ∈ l, sourceAsserted (v x.lane) x.cause = true) :
    CallsRun 0 s v (l.foldl (fun t x => t.need x.lane x.cause x.cls) s) v where
  table h := h.foldl_need hl hn
  lives := s.runs_foldl_need l
  sources _ h := h.foldl_need hl hn ha

theorem CallsGoOn.sweep (s : State) {lanes : List LaneId} (hl : lanes.Pairwise (· < ·)) : CallsGoOn 0 s (s.sweep lanes) := by
  refine CallsRun.told (CallsRun.foldl_need (s.sweptAll_distinct hl) (fun x hx => ?_) fun x hx => ?_) (s.touched_sweep lanes).lane
  · obtain ⟨-, hu, -⟩ := State.mem_sweptAll.mp hx
    obtain ⟨-, -, hn, -⟩ := State.unmet_iff.mp hu
    exact hn
  · obtain ⟨-, hu, -⟩ := State.mem_sweptAll.mp hx
    obtain ⟨-, ha, -⟩ := State.unmet_iff.mp hu
    exact ha

/-! ### Hand-offs of levels and of the FAULT source (R48, R72, R122) -/

/-- R72: a change of lane `n`'s level is handed on, to a level other than NONE. -/
theorem CallsRun.handLevel (hv : ∀ m d, ¬(m = n ∧ d = .restock) → (v m).Sustains (w m) d)
    (hne : (w n).committed.level ≠ .none ∨ (w n).committed.level = (v n).committed.level) :
    CallsRun 1 s v (s.handLevel n (v n).committed.level (w n).committed.level) w := by
  have stays : (v n).Sustains (w n) .restock → CallsRun 1 s v s w := fun h =>
    (CallsRun.of_tables rfl rfl fun m d => by
      by_cases e : m = n ∧ d = .restock
      · obtain ⟨rfl, rfl⟩ := e
        exact h
      · exact hv m d e).mono (by decide)
  have asserts : sourceAsserted (w n) .restock = true → ∀ k, CallsRun 1 s v (s.assertSource n .restock k) w := fun h k =>
    (CallsRun.assertSource hv (.inr h) k).mono (by decide)
  have clears : (w n).committed.level = .ok → CallsRun 1 s v (s.clearSource n .restock) w := fun h =>
    .clearSource hv ⟨fun _ => h, fun e => absurd rfl e⟩
  by_cases hsame : (w n).committed.level = (v n).committed.level
  · rw [hsame, State.handLevel_same]
    exact stays (Lane.sustains_restock hsame)
  have hne := hne.resolve_right hsame
  cases hb : (v n).committed.level <;> cases ha : (w n).committed.level <;>
    simp only [hb, ha, ne_eq, not_true_eq_false, reduceCtorEq] at hsame hne
  case none.ok => exact stays (Lane.sustains_of_none hb _)
  case low.ok => exact clears ha
  case empty.ok => exact clears ha
  case empty.low =>
    unfold State.handLevel
    dsimp only
    split
    · exact stays (Lane.sustains_of_asserted (by simp [sourceAsserted, hb]) (by simp [sourceAsserted, ha]))
    · exact asserts (by simp [sourceAsserted, ha]) _
  all_goals exact asserts (by simp [sourceAsserted, ha]) _

/-- R48, R122: a change of lane `n`'s FAULT source is handed on. -/
theorem CallsRun.handFault (hv : ∀ m d, ¬(m = n ∧ d = .fault) → (v m).Sustains (s.lane m) d) :
    CallsRun 1 s v (s.handFault n (v n).faultAsserted) s.lane := by
  have stays : (s.lane n).faultAsserted = (v n).faultAsserted → CallsRun 1 s v s s.lane := fun h =>
    (CallsRun.of_tables rfl rfl fun m d => by
      by_cases e : m = n ∧ d = .fault
      · obtain ⟨rfl, rfl⟩ := e
        exact Lane.sustains_fault h
      · exact hv m d e).mono (by decide)
  unfold State.handFault
  split
  · next ha =>
    split
    · next hb => exact stays (ha.trans hb.symm)
    · exact (CallsRun.assertSource hv (.inr ha) _).mono (by decide)
  · next ha =>
    have ha : (s.lane n).faultAsserted = false := by simpa using ha
    split
    · exact .clearSource hv (⟨fun _ => ha, fun _ => rfl⟩)
    · next hb => exact stays (ha.trans (by simpa using hb))

end
end Sys2Proof.Machine
end

section
/-! SUPPORT. Conversions as runs of the call controller (R33 to R88). -/

namespace Sys2Proof.Machine

/-! ### Lanes rewritten under standing sources -/

section
variable (l : Lane) (c : Cause) (r : Int)

theorem Lane.sustains_filter : l.Sustains (l.filter r) c :=
  Lane.sustains_of_eq l (l.filter r) rfl rfl c

theorem Lane.sustains_refilter : l.Sustains (l.refilter r) c :=
  Lane.sustains_of_eq l (l.refilter r) rfl rfl c

theorem Lane.sustains_recovering : l.Sustains l.recovering c :=
  Lane.sustains_of_eq l l.recovering rfl rfl c

theorem Lane.sustains_relapsed (d : Condition) : l.Sustains (l.relapsed d) c :=
  Lane.sustains_of_eq l (l.relapsed d) rfl rfl c

theorem Lane.sustains_reweighed (w : Weighing) : l.Sustains (l.reweighed w) c :=
  Lane.sustains_of_eq l (l.reweighed w) rfl rfl c

theorem Lane.sustains_suspendWith (a b : Bool) : l.Sustains (l.suspendWith a b) c :=
  Lane.sustains_of_eq l (l.suspendWith a b) rfl rfl c

variable {l}

/-- Out of FAULT and not into it, the FAULT source is drift (R122). -/
theorem Lane.sustains_of_state {m : Lane} (hl : l.state ≠ .fault) (hm : m.state ≠ .fault)
    (hv : m.committed.level = l.committed.level) (hd : m.work.drift = l.work.drift) : l.Sustains m c :=
  Lane.sustains_of_eq l m hv (by rw [Lane.faultAsserted_eq_drift hl, Lane.faultAsserted_eq_drift hm, hd]) c

theorem Lane.sustains_abnormal (hl : l.state ≠ .fault) : l.Sustains l.abnormal c := by
  refine Lane.sustains_of_state c hl ?_ rfl rfl
  unfold Lane.abnormal
  dsimp only
  split
  · decide
  · exact hl

theorem Lane.sustains_followed (hl : l.state ≠ .fault) {st : LaneState} (hst : st ≠ .fault) :
    l.Sustains { l.followed r with state := st } c :=
  Lane.sustains_of_state c hl hst rfl rfl

theorem Lane.sustains_enterCapture (hl : l.state ≠ .fault) : l.Sustains l.enterCapture c :=
  Lane.sustains_of_state c hl (by simp [Lane.enterCapture]) rfl rfl

theorem Lane.sustains_leaveCapture (hl : l.state ≠ .fault) (o : CaptureOutcome) : l.Sustains (l.leaveCapture o) c :=
  Lane.sustains_of_state c hl (by simp [Lane.leaveCapture]) rfl rfl

theorem Lane.sustains_spanned (hl : l.state ≠ .fault) (m : Nat) : l.Sustains (l.spanned m) c := by
  unfold Lane.spanned
  split <;> exact Lane.sustains_of_state c hl (by simp) rfl rfl

/-- R58 to R60: a commit rewrites the level and leaves the FAULT source. -/
theorem Lane.sustains_commit (before : Level) (hc : c ≠ .restock) : l.Sustains (l.commit before) c := by
  cases c with
  | restock => exact absurd rfl hc
  | fault => exact Lane.sustains_fault rfl
  | watch => exact Lane.sustains_watch _ _
end

theorem levelOf_ne_none (count low clear : Nat) (before : Level) : levelOf count low clear before ≠ .none := by
  unfold levelOf
  cases before <;> split_ifs <;> simp

theorem Lane.committed_tracked (l : Lane) : l.tracked.committed = l.committed := by
  unfold Lane.tracked
  dsimp only
  split
  · rfl
  · split <;> rfl

/-! ### The plateau (R55 to R60, R46 to R48, R71 to R73) -/

section
variable {s t : State} {v w : LaneId → Lane} (n : LaneId)

/-- What neither writes calls or markers nor moves a lane leaves the call controller where it was. -/
theorem CallsRun.journalEntry (s : State) (v : LaneId → Lane) (m : Movement) : CallsRun 0 s v (s.journalEntry m) v := by
  have h := s.journal_entry m
  exact .of_tables (by rw [h]) (by rw [h]) fun _ _ => .refl _ _

theorem CallsRun.watchEvaluate (s : State) (v : LaneId → Lane) (m : Movement) : CallsRun 0 s v (s.watchEvaluate m) v := by
  cases h : watchHit s.rules m with
  | none =>
    rw [State.watchEvaluate_none h]
    exact .of_tables rfl rfl fun _ _ => .refl _ _
  | some k =>
    rw [State.watchEvaluate_some h]
    have counted : CallsRun 0 s v (s.counted m) v := .of_tables rfl rfl fun _ _ => .refl _ _
    exact counted.trans (.assertSource (fun _ _ _ => .refl _ _) (.inl rfl) k)

/-- R72: the level of a lane just rewritten is handed on, the call controller knowing the lane as it was. -/
theorem CallsRun.handWritten {u : State} {l : Lane} (hu : ∀ m, u.lane m = (s.putLane n l).lane m)
    (hf : ∀ c, c ≠ .restock → (s.lane n).Sustains l c)
    (hne : l.committed.level ≠ .none ∨ l.committed.level = (s.lane n).committed.level) :
    CallsRun 1 u s.lane (u.handLevel n (s.lane n).committed.level l.committed.level)
      (u.handLevel n (s.lane n).committed.level l.committed.level).lane := by
  have hl : (s.putLane n l).lane n = l := State.lane_putLane_self s n l
  have h := CallsRun.handLevel (s := u) (v := s.lane) (w := (s.putLane n l).lane) (n := n)
    (State.sustains_putLane (p := (· = .restock)) hf) (by rwa [hl])
  rw [hl] at h
  exact h.told fun m => ((State.touched_handLevel _ _ _ _).lane m).trans (hu m)

/-- R58: the lane that a baseline plateau writes. -/
def Lane.baselined (l : Lane) : Lane :=
  { l.commit .none with binding := { l.binding with baselineNeeded := false } }

theorem Lane.sustains_baselined (l : Lane) {c : Cause} (hc : c ≠ .restock) : l.Sustains l.baselined c :=
  (Lane.sustains_commit c .none hc).trans (Lane.sustains_of_eq (l.commit .none) l.baselined rfl rfl c)

theorem CallsGoOn.baseline (s : State) : CallsGoOn 1 s (s.baseline n) := by
  unfold State.baseline
  dsimp only
  have committed : CallsGoOn 1 s _ := (CallsRun.untold s s.lane n (s.lane n).baselined).trans
    (.handWritten n (fun _ => rfl) (fun _ hc => (s.lane n).sustains_baselined hc) (.inl (levelOf_ne_none _ _ _ .none)))
  split
  · exact committed.trans (.sweep _ (List.pairwise_singleton _ n))
  · exact committed

theorem CallsGoOn.ordinary (s : State) : CallsGoOn 1 s (s.ordinary n) := by
  unfold State.ordinary
  dsimp only
  have hand : ∀ u : State, (∀ m, u.lane m = (s.putLane n ((s.lane n).commit (s.lane n).committed.level)).lane m) → _ :=
    fun u hu => CallsRun.handWritten n hu (fun c hc => Lane.sustains_commit c _ hc) (.inl (levelOf_ne_none _ _ _ _))
  have told := CallsRun.untold s s.lane n ((s.lane n).commit (s.lane n).committed.level)
  split
  · exact told.trans (hand _ fun _ => rfl)
  · refine ((told.trans (.watchEvaluate _ _ (s.formMovement n))).trans (.journalEntry _ _ (s.formMovement n))).trans
      (hand _ fun m => ?_)
    rw [State.lane_journalEntry, State.lane_watchEvaluate]

theorem CallsGoOn.track (s : State) : CallsGoOn 1 s (s.track n) := by
  unfold State.track
  split
  · have hs : ∀ c, c ≠ .fault → (s.lane n).Sustains (s.lane n).tracked c := fun c hc => by
      cases c with
      | restock => exact Lane.sustains_restock (by rw [Lane.committed_tracked])
      | fault => exact absurd rfl hc
      | watch => exact Lane.sustains_watch _ _
    exact (CallsRun.untold s s.lane n _).trans
      ((CallsRun.handFault (State.sustains_putLane (p := (· = .fault)) hs)).told (State.touched_handFault _ _ _).lane)
  · exact (CallsGoOn.refl s).mono (by decide)

theorem CallsGoOn.plateau (s : State) : CallsGoOn 2 s (s.plateau n) := by
  unfold State.plateau
  split
  · exact (CallsGoOn.refl s).mono (by decide)
  · split
    · exact (CallsGoOn.baseline n s).trans (.track n _)
    · exact (CallsGoOn.ordinary n s).trans (.track n _)

/-! ### FAULT and captures (R49 to R52, R81 to R88) -/

/-- A lane and slots rewritten, and the FAULT source asserted. -/
theorem CallsGoOn.faultEntry (s : State) (c : Condition) : CallsGoOn 0 s (s.faultEntry n c) := by
  have lane : ∀ m, m ≠ n → ((s.putLane n ((s.lane n).enterFault c)).abortCapture n).lane m = s.lane m := fun m hm => by
    rw [(WorksOn.abortCapture _ n).lane m hm, State.lane_putLane_ne _ _ _ _ hm]
  have self : ∃ o, ((s.putLane n ((s.lane n).enterFault c)).abortCapture n).lane n = { (s.lane n).enterFault c with outcome := o } := by
    unfold State.abortCapture
    split
    · exact ⟨.abortedFault, by simp⟩
    · exact ⟨((s.lane n).enterFault c).outcome, by simp⟩
  have tables : ((s.putLane n ((s.lane n).enterFault c)).abortCapture n).calls = s.calls ∧
      ((s.putLane n ((s.lane n).enterFault c)).abortCapture n).markers = s.markers := by
    unfold State.abortCapture
    split <;> exact ⟨rfl, rfl⟩
  unfold State.faultEntry
  dsimp only
  generalize (s.putLane n ((s.lane n).enterFault c)).abortCapture n = t at lane self tables ⊢
  obtain ⟨o, ho⟩ := self
  have hv : ∀ m d, ¬(m = n ∧ d = .fault) → (s.lane m).Sustains (t.lane m) d := fun m d hd => by
    by_cases e : m = n
    · subst e
      rw [ho]
      cases d with
      | restock => exact Lane.sustains_restock rfl
      | fault => exact absurd ⟨rfl, rfl⟩ hd
      | watch => exact Lane.sustains_watch _ _
    · rw [lane m e]
      exact .refl _ _
  have ha : sourceAsserted (t.lane n) .fault = true := by rw [ho]; rfl
  have notified : CallsRun 0 s s.lane (t.notify fun a => { a with fault := true }) s.lane :=
    .of_tables tables.1 tables.2 fun _ _ => .refl _ _
  exact notified.trans ((CallsRun.assertSource hv (.inr ha) _).told (State.touched_assertSource _ _ _ _).lane)

theorem CallsGoOn.abnormalConversion {n : LaneId} (hn : (s.lane n).state ≠ .fault) (c : Condition) :
    CallsGoOn 0 s (s.abnormalConversion n c) := by
  have h : CallsGoOn 0 s (s.putLane n (s.lane n).abnormal) := .putLane fun d => Lane.sustains_abnormal d hn
  unfold State.abnormalConversion
  dsimp only
  split
  · exact h
  · exact h.trans (.faultEntry n _ c)

/-- A lane whose FAULT source clears is rewritten, its slot aside, and the clearance handed on. -/
theorem CallsGoOn.cleared {n : LaneId} {l : Lane} (hl : l.committed.level = (s.lane n).committed.level)
    (hf : l.faultAsserted = false) (ht : t = { s.putLane n l with captures := t.captures }) :
    CallsGoOn 1 s (t.clearSource n .fault) := by
  have lane : ∀ m, t.lane m = (s.putLane n l).lane m := fun m => by rw [ht]; rfl
  have h : CallsRun 0 s s.lane t s.lane := .of_tables (by rw [ht]; rfl) (by rw [ht]; rfl) fun _ _ => .refl _ _
  refine h.trans (CallsRun.told (.clearSource (w := (s.putLane n l).lane) ?_ ?_) fun m =>
    ((State.touched_clearSource _ _ _).lane m).trans (lane m))
  · refine State.sustains_putLane (p := (· = .fault)) fun d hd => ?_
    cases d with
    | restock => exact Lane.sustains_restock hl
    | fault => exact absurd rfl hd
    | watch => exact Lane.sustains_watch _ _
  · rw [State.lane_putLane_self]
    exact ⟨fun _ => hf, fun _ => rfl⟩

theorem CallsGoOn.faultRecovery {n : LaneId} (hn : (s.lane n).state = .fault) (r : Int) : CallsGoOn 1 s (s.faultRecovery n r) := by
  unfold State.faultRecovery
  dsimp only
  split
  · next hd =>
    refine (CallsGoOn.putLane fun c => Lane.sustains_of_eq (s.lane n) ((s.lane n).recovered r) rfl ?_ c).mono (Nat.zero_le 1)
    simp [Lane.faultAsserted, Lane.recovered, Lane.measured, hn, hd]
  · next hd =>
    refine .cleared (l := (s.lane n).recovered r) rfl ?_ rfl
    simpa [Lane.faultAsserted, Lane.recovered, Lane.measured] using hd

/-- The slots are none of the call controller's business. -/
theorem CallsGoOn.withSlot {n : LaneId} {l : Lane} (h : ∀ c, (s.lane n).Sustains l c) (i : CaptureId) (c : Option Capture) :
    CallsGoOn 0 s ((s.putCapture i c).putLane n l) :=
  .of_lanes rfl rfl fun m d => State.sustains_putLane (p := fun _ => False) (fun d _ => h d) m d (by simp)

theorem CallsGoOn.completeCapture {n : LaneId} (hn : (s.lane n).state ≠ .fault) (i : CaptureId) (c : Capture) :
    CallsGoOn 1 s (s.completeCapture i n c) := by
  unfold State.completeCapture
  split
  · dsimp only
    split
    · exact .cleared (l := (s.lane n).zeroed) rfl rfl rfl
    · next hd =>
      refine (CallsGoOn.withSlot (fun c => ?_) i none).mono (by decide)
      refine Lane.sustains_of_state c hn (by simp [Lane.zeroed]) rfl ?_
      rw [Bool.eq_false_iff.mpr hd]
      rfl
  · exact (CallsGoOn.withSlot (fun d => Lane.sustains_spanned d hn _) i none).mono (by decide)

theorem CallsGoOn.captureNormal {n : LaneId} (hn : (s.lane n).state ≠ .fault) (i : CaptureId) (c : Capture) (r : Int) :
    CallsGoOn 1 s (s.captureNormal n i c r) := by
  have h : CallsGoOn 0 s (s.putLane n ((s.lane n).filter r)) := .putLane fun d => Lane.sustains_filter _ d r
  unfold State.captureNormal
  dsimp only
  split
  · exact (CallsGoOn.withSlot (fun d => Lane.sustains_refilter _ d r) i _).mono (by decide)
  · split
    · refine h.trans (.completeCapture ?_ i c)
      rw [State.lane_putLane_self]
      exact hn
    · exact h.mono (by decide)

/-! ### A conversion (R33, R29) -/

theorem CallsGoOn.takeConversion (s : State) (rd : Reading) : CallsGoOn 2 s (s.takeConversion n rd) := by
  have lane : ∀ {l}, (∀ c, (s.lane n).Sustains l c) → CallsGoOn 2 s (s.putLane n l) := fun h =>
    (CallsGoOn.putLane h).mono (by decide)
  have abnormal : (s.lane n).state ≠ .fault → ∀ c, CallsGoOn 2 s (s.abnormalConversion n c) := fun hn c =>
    (CallsGoOn.abnormalConversion hn c).mono (by decide)
  unfold State.takeConversion
  dsimp only
  split
  case h_1 => exact (CallsGoOn.refl s).mono (by decide)
  case h_2 hn =>
    have hf : (s.lane n).state ≠ .fault := by simp [hn]
    split
    · unfold State.movingNormal
      dsimp only
      split
      · exact (CallsGoOn.putLane fun c => Lane.sustains_followed c _ hf (st := .stable) (by decide)).trans (.plateau n _)
      · exact lane fun c => Lane.sustains_followed c _ hf hf
    · exact abnormal hf _
  case h_3 hn =>
    have hf : (s.lane n).state ≠ .fault := by simp [hn]
    split
    · exact lane fun c => Lane.sustains_followed c _ hf (by split <;> decide)
    · exact abnormal hf _
  case h_4 hn =>
    have hf : (s.lane n).state ≠ .fault := by simp [hn]
    split
    · split
      · split
        · exact (CallsGoOn.captureNormal hf _ _ _).mono (by decide)
        · exact (CallsGoOn.refl s).mono (by decide)
      · exact lane fun c => Lane.sustains_filter _ c _
    · exact abnormal hf _
  case h_5 hn =>
    split
    · split
      · exact (CallsGoOn.faultRecovery hn _).mono (by decide)
      · exact lane fun c => Lane.sustains_recovering _ c
    · exact lane fun c => Lane.sustains_relapsed _ c _

theorem CallsGoOn.converted (s : State) (rd : Reading) : CallsGoOn 2 s (s.converted rd) := by
  unfold State.converted
  split
  · have choose : ∀ u : State, ∀ p, CallsGoOn 0 u { u with scan := p } := fun u p => .of_lanes rfl rfl fun _ _ => .refl _ _
    exact (CallsGoOn.takeConversion _ s rd).trans (choose _ _)
  · exact (CallsGoOn.refl s).mono (by decide)

end
end Sys2Proof.Machine
end

section
/-! SUPPORT. Requests, ticks and restarts as runs of the call controller, and every command: O55, O59 and O60. -/

namespace Sys2Proof.Machine

/-! ### Calls freed for a lane, or all of them (R144, R146, R147) -/

section
variable {s t : State} {v : LaneId → Lane} {n : LaneId}

theorem State.runs_freeWhere (s : State) (p : Call → Bool) (i : SlotId) :
    CallEntry.Runs 1 (s.entry i) ((s.freeWhere p).entry i) := by
  refine CallEntry.runs_freed ?_
  rw [State.entry_freeWhere]
  split
  · split
    · exact .inr rfl
    · exact .inl rfl
  · exact .inl rfl

/-- R144, R147: a lane's markers cleared and some of its calls freed, then placement. -/
theorem CallsRun.freedPlace (s : State) (v : LaneId → Lane) (n : LaneId) (p : Call → Bool) :
    CallsRun 1 s v (s.freed n p).place v := by
  have calls : ∀ i a, (s.freed n p).callAt i = some a → s.callAt i = some a := fun i a h => (State.callAt_freed.mp h).1
  have marks : ∀ m c, ((s.freed n p).marker m).has c = true → (s.marker m).has c = true := fun m c h => (State.has_freed.mp h).1
  exact ⟨fun h => (h.stoodForOnce.of_fewer calls marks).place,
    fun i => ((s.putMarker n Markers.clear).runs_freeWhere p i).trans (State.runs_place _ i),
    fun _ h => (h.of_fewer calls marks).place⟩

theorem CallsGoOn.suspend (s : State) (n : LaneId) : CallsGoOn 1 s (s.suspend n) := by
  rw [State.suspend_eq]
  have h : CallsGoOn 0 s (s.putLane n ((s.lane n).suspendWith true (s.lane n).binding.baselineNeeded)) :=
    .putLane fun c => Lane.sustains_suspendWith _ c _ _
  exact h.trans ((CallsRun.freedPlace _ _ n _).told ((State.touched_freed _ _ _).trans (State.touched_place _)).lane)

/-- A lane with neither call nor marker is rewritten freely: nothing is left to agree with its sources. -/
theorem CallsRun.rewriteFree {k : Nat} {u : State} (h : CallsRun k s s.lane u s.lane) (hl : ∀ m, u.lane m = s.lane m)
    (hc : ∀ i a, u.callAt i = some a → a.lane ≠ n) (hm : ∀ m c, (u.marker m).has c = true → m ≠ n) (l : Lane) :
    CallsGoOn k s (u.putLane n l) := by
  have other : ∀ m, m ≠ n → (u.putLane n l).lane m = s.lane m := fun m hm => (State.lane_putLane_ne _ _ _ _ hm).trans (hl m)
  refine ⟨h.table, h.lives, fun ht hs => ⟨fun i a ha => ?_, fun m c hc hn => ?_⟩⟩
  · rw [other _ (hc i a ha)]
    exact (h.sources ht hs).calls i a ha
  · rw [other _ (hm m c hn)]
    exact (h.sources ht hs).markers m c hc hn

theorem CallsGoOn.unbind (s : State) (n : LaneId) : CallsGoOn 1 s (s.unbind n) := by
  rw [State.unbind_eq]
  have h := CallsRun.freedPlace s s.lane n fun a => a.lane == n
  have lane := ((s.touched_freed n fun a => a.lane == n).trans (State.touched_place _)).lane
  have calls : ∀ i a, (s.freed n fun a => a.lane == n).place.callAt i = some a → a.lane ≠ n := fun i a ha => by
    rcases State.callAt_place_freed ha with ⟨-, hp⟩ | ⟨-, hp⟩
    · simpa using hp
    · exact hp
  have marks : ∀ m c, ((s.freed n fun a => a.lane == n).place.marker m).has c = true → m ≠ n := fun m c hm =>
    (State.has_place_freed hm).2
  generalize (s.freed n fun a => a.lane == n).place = u at h lane calls marks ⊢
  exact h.rewriteFree lane calls marks _

/-- No call and no marker is left to keep a law about. -/
theorem CallsRun.emptied {k : Nat} (hc : ∀ i, t.callAt i = none) (hm : ∀ n, t.marker n = Markers.clear)
    (hr : ∀ i, CallEntry.Runs k (s.entry i) (t.entry i)) (w : LaneId → Lane) : CallsRun k s v t w := by
  refine ⟨fun _ => callTableLaw_empty hc hm, hr, fun _ _ => ⟨fun i a ha => ?_, fun n c _ hn => ?_⟩⟩
  · rw [hc] at ha
    cases ha
  · rw [hm, Markers.has_clear] at hn
    cases hn

theorem State.callAt_freeWhere_all (s : State) (i : SlotId) : (s.freeWhere fun _ => true).callAt i = none := by
  rw [State.callAt_freeWhere]
  cases s.callAt i <;> rfl

/-- R146: an empty table, swept. -/
theorem CallsGoOn.clearCalls (s : State) : CallsGoOn 1 s s.clearCalls := by
  unfold State.clearCalls
  have calls := s.callAt_freeWhere_all
  have runs := s.runs_freeWhere fun _ => true
  generalize (s.freeWhere fun _ => true) = u at calls runs ⊢
  have emptied : CallsGoOn 1 s { u with markers := Vector.replicate 48 Markers.clear } :=
    CallsRun.emptied (t := { u with markers := Vector.replicate 48 Markers.clear }) calls (State.marker_cleared u) runs _
  exact emptied.trans (.sweep _ (List.pairwise_lt_finRange 48))

/-! ### Tables of calls rewritten (R123, R153, R162) -/

/-- An entry whose call, if it holds one, is rewritten. -/
structure CallEntry.Rewritten (v : LaneId → Lane) (e f : CallEntry) : Prop where
  generation : f.generation = e.generation
  call       : Option.Rel (fun a b => a.Rewritten (v a.lane) b) e.call f.call

theorem CallEntry.Rewritten.refl (v : LaneId → Lane) (e : CallEntry) : e.Rewritten v e := by
  refine ⟨rfl, ?_⟩
  cases e.call with
  | none => exact .none
  | some a => exact .some (.refl _ a)

/-- The entry's call goes on in its state. -/
theorem CallEntry.Rewritten.of_call {e : CallEntry} {a b : Call} (he : e.call = some a) (h : a.GoesOn b)
    (hs : b.state = a.state) : e.Rewritten v { e with call := some b } :=
  ⟨rfl, he ▸ .some (.of_state h hs)⟩

/-- The table of calls rewritten whole, each call in its entry. -/
theorem CallsRun.ofCalls {f : Vector CallEntry 32} (h : ∀ i : SlotId, (s.entry i).Rewritten v f[i]) :
    CallsRun 0 s v { s with calls := f } v :=
  .rewritten (fun _ => rfl) (fun i => (h i).generation) fun i => (h i).call

theorem CallsRun.offerFaultClass (s : State) (v : LaneId → Lane) (k : ClassId) : CallsRun 0 s v (s.offerFaultClass k) v := by
  unfold State.offerFaultClass
  generalize hf : mapTable s.calls _ = f
  refine .ofCalls fun i => ?_
  rw [← hf, mapTable_get]
  split
  · next a ha =>
    split
    · exact .of_call ha ⟨min_le_left _ _, rfl, rfl, rfl⟩ rfl
    · exact .refl v _
  · exact .refl v _

theorem CallsRun.reloadClass (s : State) (v : LaneId → Lane) (k : ClassId) : CallsRun 0 s v (s.reloadClass k) v := by
  unfold State.reloadClass
  generalize hf : mapTable s.calls _ = f
  refine .ofCalls fun i => ?_
  rw [← hf, mapTable_get]
  split
  · next a ha =>
    split
    · exact .of_call ha ⟨le_rfl, rfl, rfl, rfl⟩ rfl
    · exact .refl v _
  · exact .refl v _

/-- R156: an escalation is to the next more urgent class. -/
theorem escalated_le (r : ClassRecord) (c : ClassId) (nag : Nat) : (escalated r c nag).1 ≤ c := by
  unfold escalated
  split
  · exact Nat.sub_le c.val 1
  · exact le_rfl

theorem Call.goesOn_callTick (s : State) (a : Call) : a.GoesOn (s.callTick a).1 := by
  have same : ∀ x y : Option Nat, ∀ z : Bool, a.GoesOn { a with aging := x, service := y, overdue := z } := fun _ _ _ =>
    ⟨le_rfl, rfl, rfl, rfl⟩
  unfold State.callTick
  split
  · split
    · split
      · exact .refl a
      · split
        · exact ⟨escalated_le _ _ _, rfl, rfl, rfl⟩
        · exact same _ _ _
    · exact .refl a
  · split
    · exact .refl a
    · split
      · exact same _ _ _
      · exact same _ _ _
    · exact .refl a
  · exact .refl a

theorem CallsRun.callsTick (s : State) (v : LaneId → Lane) : CallsRun 0 s v s.callsTick v := by
  have noticed : ∀ u : State, ∀ a, CallsRun 0 u v { u with attention := a } v := fun _ _ => .of_tables rfl rfl fun _ _ => .refl _ _
  unfold State.callsTick
  generalize hf : mapTable s.calls _ = f
  refine CallsRun.trans (j := 0) (k := 0) (.ofCalls (f := f) fun i => ?_) (noticed _ _)
  rw [← hf, mapTable_get]
  split
  · next a ha => exact .of_call ha (a.goesOn_callTick s) (s.callTick_state a)
  · exact .refl v _

end
end Sys2Proof.Machine
end

section
/-! SUPPORT. What every command keeps of the calls: ticks, restarts, and the requests that write calls, markers or lanes (O55, O59,
O60). -/

namespace Sys2Proof.Machine

/-! ### What a command keeps of the calls -/

/-- What the call controller's laws read of the state. -/
structure CallTables where
  lanes    : Vector Lane 48
  captures : Vector (Option Capture) 4
  calls    : Vector CallEntry 32
  markers  : Vector Markers 48

def State.callTables (s : State) : CallTables :=
  { lanes := s.lanes, captures := s.captures, calls := s.calls, markers := s.markers }

/-- R1 and R77, as far as the sources of calls need them: an OFF lane is at its defaults, and a running slot's lane is in CAPTURE. -/
structure LanesStand (s : State) : Prop where
  off     : ∀ n, (s.lane n).state = .off → s.lane n = Lane.off n
  capture : ∀ i c, s.capture i = some c → (s.lane c.lane).state = .capture

theorem lanesStand {s : State} (ho : OffLaw s) (hc : CaptureLaw s) : LanesStand s :=
  ⟨fun n hn => (ho n hn).1, fun _ _ => hc.running⟩

/-- What every command keeps of the calls: the laws of their table; their lives, an entry being freed at most twice, but where a
restart empties the table; and, on lanes that stand, their agreement with their sources. -/
structure KeepsCalls (s t : State) : Prop where
  table   : CallTableLaw s → CallTableLaw t
  lives   : (∀ i, t.callAt i = none) ∨ ∀ i, CallEntry.Runs 2 (s.entry i) (t.entry i)
  sources : LanesStand s → CallTableLaw s → Sourced s.lane s → Sourced t.lane t

section
variable {s t u : State}

theorem KeepsCalls.of_run {k : Nat} (h : CallsGoOn k s t) (hk : k ≤ 2) : KeepsCalls s t :=
  ⟨h.table, .inr fun i => (h.lives i).mono hk, fun _ => h.sources⟩

/-- The lanes rewritten by a command sustain their sources because they stood. -/
theorem KeepsCalls.of_standing {w : LaneId → Lane} (h : CallsRun 0 s s.lane t w)
    (hw : LanesStand s → ∀ n c, (w n).Sustains (t.lane n) c) : KeepsCalls s t :=
  ⟨h.table, .inr fun i => (h.lives i).mono (by decide), fun hl ht hs => (h.sources ht hs).sustained (hw hl)⟩

section
variable (h : t.callTables = s.callTables)
include h

theorem lane_of_callTables : t.lane = s.lane := funext fun n => by
  have e : t.lanes = s.lanes := congrArg CallTables.lanes h
  simp only [State.lane, e]

theorem goOn_of_callTables : CallsGoOn 0 s t :=
  .of_lanes (congrArg CallTables.calls h) (congrArg CallTables.markers h) fun n c => by
    rw [lane_of_callTables h]
    exact .refl _ _

theorem lanesStand_of_callTables (hs : LanesStand s) : LanesStand t := by
  have e : t.captures = s.captures := congrArg CallTables.captures h
  refine ⟨fun n => by rw [lane_of_callTables h]; exact hs.off n, fun i c => ?_⟩
  rw [lane_of_callTables h, State.capture, e]
  exact hs.capture i c

theorem KeepsCalls.of_callTables : KeepsCalls s t := .of_run (goOn_of_callTables h) (by decide)

/-- Ahead of a command nothing of the calls changed. -/
theorem KeepsCalls.before (k : KeepsCalls t u) : KeepsCalls s u where
  table := k.table ∘ (goOn_of_callTables h).table
  lives := k.lives.imp_right fun hl i => ((goOn_of_callTables h).lives i).trans (hl i)
  sources hl ht hs := k.sources (lanesStand_of_callTables h hl) ((goOn_of_callTables h).table ht)
    ((goOn_of_callTables h).sources ht hs)

/-- Behind a command nothing of the calls changes. -/
theorem KeepsCalls.after (k : KeepsCalls u s) : KeepsCalls u t where
  table := (goOn_of_callTables h).table ∘ k.table
  lives := k.lives.imp (fun hn i => by
      have e : t.calls = s.calls := congrArg CallTables.calls h
      have := hn i
      rwa [State.callAt, State.entry, e]) fun hl i => (hl i).trans ((goOn_of_callTables h).lives i)
  sources hl ht hs := (goOn_of_callTables h).sources (k.table ht) (k.sources hl ht hs)
end

theorem KeepsCalls.refl (s : State) : KeepsCalls s s := .of_callTables rfl

theorem KeepsCalls.accept (h : KeepsCalls s t) (body : List Byte) : KeepsCalls s (t.accept body).state := h

/-- A restart leaves no call and no marker (R148). -/
theorem KeepsCalls.restart (s : State) : KeepsCalls s s.restart where
  table _ := callTableLaw_empty s.callAt_restart s.marker_restart
  lives := .inl s.callAt_restart
  sources _ _ _ := ⟨fun i a h => by simp at h, fun n c _ h => by simp at h⟩

/-! ### The tick (R86, R153, R169) -/

section
variable (v : LaneId → Lane)

theorem CallsRun.foldl {α : Type} {f : State → α → State} (h : ∀ u a, CallsRun 0 u v (f u a) v) (l : List α) (s : State) :
    CallsRun 0 s v (l.foldl f s) v :=
  List.foldlRecOn (motive := fun u => CallsRun 0 s v u v) l f (.refl s v) fun u hu a _ => hu.trans (h u a)

theorem CallsRun.captureTick (s : State) (i : CaptureId) : CallsRun 0 s v (s.captureTick i) v := by
  unfold State.captureTick
  split
  · split <;> exact .of_tables rfl rfl fun _ _ => .refl _ _
  · exact .refl s v

theorem CallsRun.putBay (s : State) (b : BayId) (r : Bay) : CallsRun 0 s v (s.putBay b r) v :=
  .of_tables rfl rfl fun _ _ => .refl _ _

theorem CallsRun.closeBayWindow (s : State) (b : BayId) : CallsRun 0 s v (s.closeBayWindow b) v := by
  unfold State.closeBayWindow
  generalize mapTable s.lanes _ = l
  exact .of_tables rfl rfl fun _ _ => .refl _ _

theorem CallsRun.windowCountdown (s : State) (b : BayId) : CallsRun 0 s v (s.windowCountdown b) v := by
  unfold State.windowCountdown
  split
  · split
    · exact .closeBayWindow v s b
    · exact .putBay v s b _
  · exact .refl s v

theorem CallsRun.keyStep (s : State) (b : BayId) (down : Bool) : CallsRun 0 s v (s.keyStep b down) v := by
  unfold State.keyStep
  dsimp only
  split
  · have key : ∀ r, CallsRun 0 s v (s.putBay b r) v := CallsRun.putBay v s b
    split
    case h_4 =>
      split
      · exact (key _).trans (.closeBayWindow v _ b)
      · exact key _
    case h_5 => exact (key _).trans (.putBay v _ b _)
    all_goals exact key _
  · exact .refl s v

theorem CallsRun.overrideCountdown (s : State) (b : BayId) : CallsRun 0 s v (s.overrideCountdown b) v := by
  unfold State.overrideCountdown
  split
  · split
    · exact .putBay v s b _
    · exact .refl s v
  · exact .refl s v

theorem CallsRun.bayTick (keys : BitVec 6) (s : State) (b : BayId) : CallsRun 0 s v (s.bayTick keys b) v :=
  (((CallsRun.windowCountdown v s b).trans (.keyStep v _ b _)).trans (.putBay v _ b _)).trans (.overrideCountdown v _ b)

/-- Whatever the order of the blocks, a tick leaves every call in its entry and its state. -/
theorem CallsRun.ticked (s : State) (t : TickInput) : CallsRun 0 s v (s.ticked t) v := by
  have clock : CallsRun 0 s v { s with tick := s.tick + 1 } v := .of_tables rfl rfl fun _ _ => .refl _ _
  have caps : ∀ u, CallsRun 0 u v u.capturesTick v := fun u => .foldl v (.captureTick v) _ u
  have bays : ∀ u : State, CallsRun 0 u v (u.baysTick t.keysDown) v := fun u => .foldl v (.bayTick v t.keysDown) _ u
  have calls : ∀ u : State, CallsRun 0 u v u.callsTick v := fun u => .callsTick u v
  unfold State.ticked
  dsimp only
  cases t.baysBeforeCaptures <;> cases t.baysBeforeCalls <;> simp only [if_true, if_false, Bool.false_eq_true]
  · exact ((clock.trans (caps _)).trans (calls _)).trans (bays _)
  · exact ((clock.trans (caps _)).trans (bays _)).trans (calls _)
  · exact ((clock.trans (calls _)).trans (bays _)).trans (caps _)
  · exact ((clock.trans (bays _)).trans (caps _)).trans (calls _)
end

theorem Lane.sustains_of_uncarried {l m : Lane} (h : m.uncarried = l.uncarried) (c : Cause) : l.Sustains m c := by
  have hl : m.uncarried.committed.level = l.uncarried.committed.level := by rw [h]
  have hf : m.uncarried.faultAsserted = l.uncarried.faultAsserted := by rw [h]
  exact Lane.sustains_of_eq l m hl hf c

/-- R86: a lane whose capture times out was in CAPTURE, so that no FAULT source of its changes. -/
theorem LanesStand.sustains_laneTimed (h : LanesStand s) (l : List CaptureId) (n : LaneId) (c : Cause) :
    (s.lane n).Sustains (s.laneTimed l n) c := by
  unfold State.laneTimed
  split
  · next hout =>
    obtain ⟨i, -, hi⟩ := List.any_eq_true.mp hout
    obtain ⟨cap, hcap, hn⟩ := (Option.any_eq_true _ _).mp hi
    rw [Bool.and_eq_true, beq_iff_eq] at hn
    have hst := h.capture i cap hcap
    rw [hn.1] at hst
    exact Lane.sustains_leaveCapture c (by simp [hst]) _
  · exact .refl _ _

theorem KeepsCalls.ticked (s : State) (t : TickInput) : KeepsCalls s (s.ticked t) :=
  .of_standing (.ticked s.lane s t) fun h n c =>
    (h.sustains_laneTimed (List.finRange 4) n c).trans (Lane.sustains_of_uncarried ((CapturesTicked.ticked s t).lane n) c)

/-! ### The checks of the requests (R1, R8, R78, R139, R182, R196) -/

/-- What holds of the state a request finds and of the state that its effect makes holds whatever the check answers. -/
theorem checked_unlessSaving {P : State → Prop} {k : Served} (hs : P s) (hk : P k.state) : P (unlessSaving s k).state := by
  unfold unlessSaving
  split
  · exact hs
  · exact hk

variable {P : State → Prop} {k : Served}

theorem checked_withLane {b : Byte} {k : LaneId → Served} (hs : P s) (hk : ∀ n, P (k n).state) : P (withLane s b k).state := by
  unfold withLane
  split
  · exact hk _
  · exact hs

theorem checked_withBay {b : Byte} {k : BayId → Served} (hs : P s) (hk : ∀ i, P (k i).state) : P (withBay s b k).state := by
  unfold withBay
  split
  · exact hk _
  · exact hs

theorem checked_unlessOff {n : LaneId} (hs : P s) (hk : P k.state) : P (unlessOff s n k).state := by
  unfold unlessOff
  split
  · exact hs
  · exact hk

theorem checked_unlessCapture {n : LaneId} (hs : P s) (hk : P k.state) : P (unlessCapture s n k).state := by
  unfold unlessCapture
  split
  · exact hs
  · exact hk

theorem checked_require {ok : Bool} {st : Status} (hs : P s) (hk : ok = true → P k.state) : P (require s ok st k).state := by
  unfold require
  split
  · next h => exact hk h
  · exact hs

theorem checked_withCall {slot g : Byte} {k : SlotId → Call → Served} (hs : P s)
    (hk : ∀ i c, s.callAt i = some c → P (k i c).state) : P (withCall s slot g k).state := by
  unfold withCall
  split
  · split
    · next c hc =>
      split
      · exact hk _ c hc
      · exact hs
    · exact hs
  · exact hs
end

/-! ### The requests that write lanes (chapters 1 and 5) -/

section
variable (p : List Byte) (s : State)

/-- R10: an OFF lane is at its defaults, so that it neither is LOW nor EMPTY nor in FAULT, and no more is it once bound. -/
theorem KeepsCalls.bindFresh {n : LaneId} (hn : (s.lane n).state = .off) (f : BindFields) : KeepsCalls s (s.bindFresh n f) := by
  have lane : KeepsCalls s (s.putLane n (boundLane n f)) := by
    refine .of_standing (.untold s s.lane n _) fun h m c => State.sustains_putLane (p := fun _ => False) (fun d _ => ?_) m c (by simp)
    rw [h.off n hn]
    exact Lane.sustains_of_eq (Lane.off n) (boundLane n f) rfl rfl d
  refine .after ?_ lane
  unfold State.bindFresh State.wake
  split <;> rfl

theorem CallsRun.offerChangedClass (v : LaneId → Lane) (n : LaneId) (b : Binding) :
    CallsRun 0 s v (s.offerChangedClass n b) v := by
  unfold State.offerChangedClass
  dsimp only
  split
  · split
    · exact .refl s v
    · exact .offerClass s v _ _ _
  · split
    · exact .refl s v
    · exact .offerClass s v _ _ _
  · exact .refl s v

/-- R69: NONE stays NONE, and a level that is re-evaluated is another. -/
theorem Lane.relevel_ne_none (l : Lane) (f : BindFields) :
    (l.rebound f).committed.level ≠ .none ∨ (l.rebound f).committed.level = l.committed.level := by
  change l.relevel f ≠ .none ∨ l.relevel f = l.committed.level
  unfold Lane.relevel
  split
  · next h => exact .inr h.symm
  · split
    · exact .inr rfl
    · exact .inl (levelOf_ne_none _ _ _ _)

theorem CallsGoOn.rebind (n : LaneId) (f : BindFields) : CallsGoOn 1 s (s.rebind n f) := by
  have hand := CallsRun.handWritten n (u := s.putLane n ((s.lane n).rebound f)) (fun _ => rfl) (fun c hc => by
    cases c with
    | restock => exact absurd rfl hc
    | fault => exact Lane.sustains_fault rfl
    | watch => exact Lane.sustains_watch _ _) ((s.lane n).relevel_ne_none f)
  exact (((CallsRun.untold s s.lane n _).trans hand).trans (.offerChangedClass _ _ n _)).told
    (State.touched_offerChangedClass _ _ _).lane

theorem KeepsCalls.bindLane : KeepsCalls s (bindLane p s).state := by
  unfold Machine.bindLane
  split
  · refine checked_unlessSaving (.refl s) (checked_withLane (.refl s) fun n => checked_unlessCapture (.refl s) ?_)
    split
    · refine .accept ?_ _
      split
      · next hn => exact .bindFresh s hn _
      · exact .of_run (.rebind s n _) (by decide)
    · exact .refl s
  · exact .refl s

theorem KeepsCalls.unbindLane : KeepsCalls s (unbindLane p s).state := by
  unfold Machine.unbindLane
  split
  · exact checked_unlessSaving (.refl s) (checked_withLane (.refl s) fun n => checked_unlessOff (.refl s)
      (checked_unlessCapture (.refl s) (checked_require (.refl s) fun _ => .accept (.of_run (.unbind s n) (by decide)) _)))
  · exact .refl s

theorem KeepsCalls.setLaneWeighing : KeepsCalls s (setLaneWeighing p s).state := by
  unfold Machine.setLaneWeighing
  split
  · exact checked_unlessSaving (.refl s) (checked_withLane (.refl s) fun n => checked_unlessOff (.refl s)
      (checked_unlessCapture (.refl s) (.accept (.of_run (.putLane fun c => Lane.sustains_reweighed _ c _) (by decide)) _)))
  · exact .refl s

theorem KeepsCalls.suspendLane : KeepsCalls s (suspendLane p s).state := by
  unfold Machine.suspendLane
  split
  · exact checked_unlessSaving (.refl s) (checked_withLane (.refl s) fun n => checked_unlessOff (.refl s)
      (checked_unlessCapture (.refl s) (checked_require (.refl s) fun _ => .accept (.of_run (.suspend s n) (by decide)) _)))
  · exact .refl s

theorem CallsGoOn.resume (n : LaneId) : CallsGoOn 0 s (s.resume n) :=
  (CallsGoOn.putLane fun c => Lane.sustains_suspendWith _ c _ _).trans (.sweep _ (List.pairwise_singleton _ n))

theorem KeepsCalls.resumeLane : KeepsCalls s (resumeLane p s).state := by
  unfold Machine.resumeLane
  split
  · exact checked_unlessSaving (.refl s) (checked_withLane (.refl s) fun n => checked_unlessOff (.refl s)
      (checked_unlessCapture (.refl s) (checked_require (.refl s) fun _ => .accept (.of_run (.resume s n) (by decide)) _)))
  · exact .refl s

theorem KeepsCalls.tryCapture {n : LaneId} (hn : (s.lane n).state ≠ .fault) (kind : CaptureKind) (mass : Nat) :
    KeepsCalls s (s.tryCapture n kind mass).state := by
  unfold State.tryCapture
  split
  · exact .of_run (.withSlot (fun c => Lane.sustains_enterCapture c hn) _ _) (by decide)
  · exact .refl s

theorem KeepsCalls.beginZero : KeepsCalls s (beginZero p s).state := by
  unfold Machine.beginZero
  split
  · exact checked_withLane (.refl s) fun n => checked_unlessOff (.refl s) (checked_unlessCapture (.refl s)
      (checked_require (.refl s) fun hn => .tryCapture s (by simpa using hn) _ _))
  · exact .refl s

theorem KeepsCalls.beginSpan : KeepsCalls s (beginSpan p s).state := by
  unfold Machine.beginSpan
  split
  · exact checked_withLane (.refl s) fun n => checked_unlessOff (.refl s) (checked_unlessCapture (.refl s)
      (checked_require (.refl s) fun hn => checked_require (.refl s) fun _ => checked_require (.refl s) fun _ =>
        .tryCapture s (by simpa using hn) _ _))
  · exact .refl s

/-- R87: the lane of a running slot is in CAPTURE, so that no FAULT source changes. -/
theorem KeepsCalls.endCapture {i : CaptureId} {c : Capture} (hi : s.capture i = some c) (o : CaptureOutcome) :
    KeepsCalls s (s.endCapture i c.lane o) := by
  have untold : CallsRun 0 s s.lane (s.endCapture i c.lane o) s.lane := .of_tables rfl rfl fun _ _ => .refl _ _
  refine .of_standing untold fun h m d =>
    State.sustains_putLane (s := s) (p := fun _ => False) (fun d _ => Lane.sustains_leaveCapture d ?_ o) m d (by simp)
  simp [h.capture i c hi]

theorem KeepsCalls.cancelCapture : KeepsCalls s (cancelCapture p s).state := by
  unfold Machine.cancelCapture
  split
  · refine checked_withLane (.refl s) fun n => checked_unlessOff (.refl s) ?_
    split
    · next i hi =>
      obtain ⟨c, hc, rfl⟩ := State.captureSlot_some hi
      rw [hc]
      exact .endCapture s hc .cancelled
    · exact .refl s
  · exact .refl s

theorem CallsGoOn.calibrate (n : LaneId) (zero : Int) (gain : Nat) : CallsGoOn 1 s (s.calibrate n zero gain) := by
  unfold State.calibrate
  dsimp only
  split
  · next h =>
    obtain ⟨-, hn⟩ := Bool.and_eq_true_iff.mp h
    refine .cleared (l := (s.lane n).calibrated zero gain) rfl ?_ rfl
    simpa [Lane.faultAsserted, Lane.calibrated] using hn
  · next h =>
    refine (CallsGoOn.putLane fun c => Lane.sustains_of_eq (s.lane n) ((s.lane n).calibrated zero gain) rfl ?_ c).mono (by decide)
    simp only [Lane.faultAsserted, Lane.calibrated]
    cases hd : (s.lane n).work.drift
    · rfl
    · simpa [hd] using h

theorem KeepsCalls.setCalibration : KeepsCalls s (setCalibration p s).state := by
  unfold Machine.setCalibration
  split
  · exact checked_unlessSaving (.refl s) (checked_withLane (.refl s) fun n => checked_unlessOff (.refl s)
      (checked_unlessCapture (.refl s) (checked_require (.refl s) fun _ => .accept (.of_run (.calibrate s n _ _) (by decide)) _)))
  · exact .refl s

/-! ### The requests that write calls (chapters 8 and 9) -/

theorem CallsGoOn.takenCall {i : SlotId} {a : Call} (ha : s.callAt i = some a) (hr : a.state = .raised) :
    CallsGoOn 0 s (s.putCall i (s.takenCall a)) :=
  CallsRun.putCall ha ⟨⟨le_rfl, rfl, rfl, rfl⟩, fun h =>
    Lane.supports_live (Lane.asserted_of_supports h (by simp [hr])) (by simp [State.takenCall])⟩

theorem KeepsCalls.takeCall : KeepsCalls s (takeCall p s).state := by
  unfold Machine.takeCall
  split
  · exact checked_withCall (.refl s) fun i a ha => checked_require (.refl s) fun hr =>
      .accept (.of_run (.takenCall s ha (by simpa using hr)) (by decide)) _
  · exact .refl s

/-- R141, R142: a call that returns to RAISED was TAKEN, and its source is asserted or it is a WATCH call. -/
theorem CallsGoOn.close {i : SlotId} {a : Call} (ha : s.callAt i = some a) : CallsGoOn 1 s (s.close i a).state := by
  unfold State.close
  dsimp only
  split
  · next hret =>
    have htaken : a.state = .taken := by
      simp only [State.returns, Bool.and_eq_true, beq_iff_eq] at hret
      exact hret.1.2
    have returned : CallsGoOn 0 s (s.putCall i (s.returnedCall a)) :=
      CallsRun.putCall ha ⟨⟨le_rfl, rfl, rfl, rfl⟩, fun h =>
        Lane.supports_live (Lane.asserted_of_supports h (by simp [htaken])) (by simp [State.returnedCall])⟩
    have noticed : ∀ u : State, CallsGoOn 0 u (u.noteNewCall a.cls) := fun u => by
      unfold State.noteNewCall
      split <;> exact .of_lanes rfl rfl fun _ _ => .refl _ _
    exact (returned.trans (noticed _)).mono (by decide)
  · exact (CallsRun.freePlace s s.lane i).told ((s.touched_freeEntry i).trans (State.touched_place _)).lane

theorem KeepsCalls.closeCall : KeepsCalls s (closeCall p s).state := by
  unfold Machine.closeCall
  split
  · exact checked_withCall (.refl s) fun i a ha => checked_require (.refl s) fun _ => .of_run (.close s ha) (by decide)
  · exact .refl s

theorem KeepsCalls.clearCallsRequest : KeepsCalls s (clearCallsRequest p s).state := by
  unfold Machine.clearCallsRequest
  split
  · exact .accept (.of_run (.clearCalls s) (by decide)) _
  · exact .refl s

theorem KeepsCalls.setClass : KeepsCalls s (setClass p s).state := by
  have written : ∀ k r, (s.writeClass k r).callTables = s.callTables := fun k r => by
    unfold State.writeClass
    dsimp only
    split <;> rfl
  have reloaded : ∀ (u : State) k, KeepsCalls u (u.reloadClass k) := fun u k =>
    .of_run ((CallsRun.reloadClass u u.lane k).told (CallsKept.reloadClass u k).only.lane) (by decide)
  unfold Machine.setClass
  split
  · refine checked_unlessSaving (.refl s) ?_
    split
    · refine .accept ?_ _
      split
      · exact .before (written _ _) (reloaded _ _)
      · exact .of_callTables (written _ _)
    · exact .refl s
  · exact .refl s

theorem KeepsCalls.setDevice (broadcast : Bool) : KeepsCalls s (setDevice broadcast p s).state := by
  have offered : ∀ k, CallsGoOn 0 s (s.offerFaultClass k) := fun k =>
    (CallsRun.offerFaultClass s s.lane k).told (s.touched_offerFaultClass k).lane
  unfold Machine.setDevice
  split
  · refine checked_unlessSaving (.refl s) ?_
    split
    · next d _ =>
      have h : KeepsCalls s (if d.faultClass = s.device.faultClass then s else s.offerFaultClass d.faultClass) := by
        split
        · exact .refl s
        · exact .of_run (offered _) (by decide)
      refine .accept ?_ _
      unfold State.takeDevice
      dsimp only
      generalize (if d.faultClass = s.device.faultClass then s else s.offerFaultClass d.faultClass) = t at h ⊢
      split
      · exact .after (s := t) rfl h
      · exact .after (s := t) rfl h
    · exact .refl s
  · exact .refl s
end
end Sys2Proof.Machine
end

section
/-! SUPPORT. Every command keeps the laws of the calls: O55, O59 and O60. -/

namespace Sys2Proof.Machine

/-! ### The requests that leave calls, markers, lanes and slots alone -/

section
variable (p : List Byte) (s : State)

theorem tables_identify : (identify p s).state.callTables = s.callTables := by
  unfold identify
  split <;> rfl

theorem tables_getStatus : (getStatus p s).state.callTables = s.callTables := by
  unfold getStatus
  split <;> rfl

theorem tables_saveSettings : (saveSettings p s).state.callTables = s.callTables := by
  unfold saveSettings
  split
  · exact checked_unlessSaving (P := fun t => t.callTables = s.callTables) rfl rfl
  · rfl

theorem tables_laneSummary : (laneSummary p s).state.callTables = s.callTables := by
  unfold laneSummary
  split <;> rfl

theorem tables_getLane : (getLane p s).state.callTables = s.callTables := by
  unfold getLane
  split
  · exact checked_withLane (P := fun t => t.callTables = s.callTables) rfl fun _ => rfl
  · rfl

theorem tables_readMoves : (readMoves p s).state.callTables = s.callTables := by
  unfold readMoves
  split <;> rfl

theorem tables_removeMoves : (removeMoves p s).state.callTables = s.callTables := by
  unfold removeMoves
  split
  · change (s.removeHead _).callTables = _
    rw [s.journal_removeHead]
    rfl
  · rfl

theorem tables_clearJournal : (clearJournal p s).state.callTables = s.callTables := by
  unfold clearJournal
  split <;> rfl

theorem tables_setWatch : (setWatch p s).state.callTables = s.callTables := by
  unfold setWatch
  split
  · refine checked_unlessSaving (P := fun t => t.callTables = s.callTables) rfl ?_
    split <;> rfl
  · rfl

theorem tables_getWatch : (getWatch p s).state.callTables = s.callTables := by
  unfold getWatch
  split
  · split <;> rfl
  · rfl

theorem tables_clearWatchHits : (clearWatchHits p s).state.callTables = s.callTables := by
  unfold clearWatchHits
  split <;> rfl

theorem tables_nextCall : (nextCall p s).state.callTables = s.callTables := by
  unfold nextCall
  split <;> rfl

theorem tables_listCalls : (listCalls p s).state.callTables = s.callTables := by
  unfold listCalls
  split
  · split <;> rfl
  · rfl

theorem tables_getClass : (getClass p s).state.callTables = s.callTables := by
  unfold getClass
  split
  · split <;> rfl
  · rfl

theorem tables_setBay : (setBay p s).state.callTables = s.callTables := by
  unfold setBay
  split
  · refine checked_unlessSaving (P := fun t => t.callTables = s.callTables) rfl
      (checked_withBay (P := fun t => t.callTables = s.callTables) rfl fun _ => ?_)
    split <;> rfl
  · rfl

theorem tables_getBay : (getBay p s).state.callTables = s.callTables := by
  unfold getBay
  split
  · exact checked_withBay (P := fun t => t.callTables = s.callTables) rfl fun _ => rfl
  · rfl

theorem tables_openWindow : (openWindow p s).state.callTables = s.callTables := by
  unfold openWindow
  split
  · exact checked_withBay (P := fun t => t.callTables = s.callTables) rfl fun _ => rfl
  · exact checked_withBay (P := fun t => t.callTables = s.callTables) rfl fun _ => rfl
  · rfl

theorem tables_setLamp : (setLamp p s).state.callTables = s.callTables := by
  unfold setLamp
  split
  · refine checked_withBay (P := fun t => t.callTables = s.callTables) rfl fun _ => ?_
    split
    · rfl
    · split <;> rfl
  · rfl

theorem tables_setPattern : (setPattern p s).state.callTables = s.callTables := by
  unfold setPattern
  split
  · refine checked_unlessSaving (P := fun t => t.callTables = s.callTables) rfl ?_
    split <;> rfl
  · rfl

/-- A close marks lanes with carry-over only (R174). -/
theorem KeepsCalls.closeBayWindow (b : BayId) : KeepsCalls s (s.closeBayWindow b) :=
  .of_standing (.closeBayWindow s.lane s b) fun _ n c => Lane.sustains_of_uncarried ((CarryOverOnly.closeBayWindow s b).lane n) c

theorem KeepsCalls.closeWindow : KeepsCalls s (closeWindow p s).state := by
  unfold Machine.closeWindow
  split
  · refine checked_withBay (.refl s) fun i => ?_
    split
    · exact .accept (.closeBayWindow s i) _
    · exact .refl s
  · exact .refl s

/-- An addressed RESTART waits for its reply; broadcast, it begins at once. -/
theorem KeepsCalls.restartRequest (broadcast : Bool) : KeepsCalls s (restartRequest broadcast p s).state := by
  unfold Machine.restartRequest
  split
  · refine checked_unlessSaving (.refl s) (.accept ?_ _)
    split
    · exact .restart s
    · exact .of_callTables rfl
  · exact .refl s
end

/-! ### The line, the supply and the pins (R186, R197, R198) -/

theorem KeepsCalls.serve {act : State → Served} (h : ∀ s, KeepsCalls s (act s).state) (kind : Nat) (ro : Bool) (hd : Header)
    (p : List Byte) (s : State) : KeepsCalls s (serve kind ro hd p act s) := by
  have hunt : (atHunt s).callTables = s.callTables := rfl
  rcases serve_cases kind ro hd p act s with e | e | e | e <;> rw [e]
  · exact .refl s
  · exact .of_callTables hunt
  · exact .before hunt (h _)
  · exact .after (s := (act (atHunt s)).state) rfl (.before hunt (h _))

/-- An outcome that is a next state in which the laws of the calls are kept. -/
def CallsKeptBy (s : State) (o : Out) : Prop :=
  ∀ t, o = .next t → KeepsCalls s t

theorem callsKeptBy_next {s t : State} (h : KeepsCalls s t) : CallsKeptBy s (.next t) := by
  intro u e
  cases e
  exact h

theorem callsKeptBy_tables {s t : State} (h : t.callTables = s.callTables) : CallsKeptBy s (.next t) :=
  callsKeptBy_next (.of_callTables h)

section
variable (s : State)

theorem KeepsCalls.restartPowered (pw : Power) : KeepsCalls s (State.restart { s with power := pw }) :=
  .before (t := { s with power := pw }) rfl (.restart _)

theorem callsKeptBy_execPowerOn (straps : BitVec 5) : CallsKeptBy s (execPowerOn straps s) := by
  unfold execPowerOn
  dsimp only
  split
  · exact callsKeptBy_tables rfl
  · split
    · exact callsKeptBy_tables rfl
    · exact callsKeptBy_next (.restartPowered s _)

theorem callsKeptBy_execResetNLow : CallsKeptBy s (execResetNLow s) := by
  unfold execResetNLow
  split <;> exact callsKeptBy_tables rfl

theorem callsKeptBy_execResetNRelease (straps : BitVec 5) : CallsKeptBy s (execResetNRelease straps s) := by
  unfold execResetNRelease
  dsimp only
  split
  · split
    · exact callsKeptBy_next (.restartPowered s _)
    · exact callsKeptBy_tables rfl
  · exact callsKeptBy_tables rfl

theorem callsKeptBy_execPowerLoss : CallsKeptBy s (execPowerLoss s) := by
  unfold execPowerLoss
  split <;> exact callsKeptBy_tables rfl

theorem callsKeptBy_execLineIdle : CallsKeptBy s (execLineIdle s) := by
  unfold execLineIdle
  split <;> exact callsKeptBy_tables rfl

theorem callsKeptBy_execFrameAbandoned (chars : List Byte) : CallsKeptBy s (execFrameAbandoned chars s) := by
  unfold execFrameAbandoned
  split <;> exact callsKeptBy_tables rfl

theorem callsKeptBy_execFrameDiscarded (chars : List Byte) : CallsKeptBy s (execFrameDiscarded chars s) := by
  unfold execFrameDiscarded
  split <;> exact callsKeptBy_tables rfl

theorem callsKeptBy_execUnknownKindRequest (h : Header) (kind : Byte) (p : List Byte) :
    CallsKeptBy s (execUnknownKindRequest h kind p s) := by
  unfold execUnknownKindRequest
  split
  · exact callsKeptBy_next (.serve (fun u => .refl u) _ _ _ _ s)
  · split <;> exact callsKeptBy_tables rfl

theorem callsKeptBy_execReplyComplete : CallsKeptBy s (execReplyComplete s) := by
  unfold execReplyComplete
  split
  · split
    · exact callsKeptBy_next (.restart s)
    · exact callsKeptBy_tables rfl
  · exact callsKeptBy_tables rfl

theorem callsKeptBy_execSaveComplete (agrees : Bool) : CallsKeptBy s (execSaveComplete agrees s) := by
  unfold execSaveComplete
  split <;> exact callsKeptBy_tables rfl

theorem KeepsCalls.tickIf (due : Bool) (t : TickInput) : KeepsCalls s (tickIf due t s) := by
  unfold Machine.tickIf
  split
  · exact .ticked s t
  · exact .refl s

theorem KeepsCalls.convertIf (due : Bool) (rd : Reading) : KeepsCalls s (convertIf due rd s) := by
  unfold Machine.convertIf
  split
  · exact .of_run (.converted s rd) le_rfl
  · exact .refl s

/-! ### Every command, and every step -/

theorem callsKeptBy_exec (c : Instr) : CallsKeptBy s (exec c s) := by
  have request : ∀ {kind ro h p} {act : State → Served}, (∀ u, KeepsCalls u (act u).state) →
      CallsKeptBy s (.next (serve kind ro h p act s)) := fun hact => callsKeptBy_next (.serve hact _ _ _ _ s)
  have report : ∀ {kind ro h p} {act : State → Served}, (∀ u, (act u).state.callTables = u.callTables) →
      CallsKeptBy s (.next (serve kind ro h p act s)) := fun hact => request fun u => .of_callTables (hact u)
  have tick : ∀ due t, CallsKeptBy s (.next (tickIf due t s)) := fun due t => callsKeptBy_next (.tickIf s due t)
  have convert : ∀ due rd, CallsKeptBy s (.next (convertIf due rd s)) := fun due rd => callsKeptBy_next (.convertIf s due rd)
  cases c with
  | powerOn straps => exact callsKeptBy_execPowerOn s straps
  | resetNLow => exact callsKeptBy_execResetNLow s
  | resetNRelease straps => exact callsKeptBy_execResetNRelease s straps
  | lineIdle => exact callsKeptBy_execLineIdle s
  | frameAbandoned chars => exact callsKeptBy_execFrameAbandoned s chars
  | frameDiscarded chars => exact callsKeptBy_execFrameDiscarded s chars
  | unknownKindRequest h kind p => exact callsKeptBy_execUnknownKindRequest s h kind p
  | replyComplete => exact callsKeptBy_execReplyComplete s
  | identify h p => exact report (tables_identify p)
  | getStatus h p => exact report (tables_getStatus p)
  | restart h p => exact request fun u => .restartRequest p u _
  | setDevice h p => exact request fun u => .setDevice p u _
  | saveSettings h p => exact report (tables_saveSettings p)
  | saveComplete agrees => exact callsKeptBy_execSaveComplete s agrees
  | laneSummary h p => exact report (tables_laneSummary p)
  | getLane h p => exact report (tables_getLane p)
  | bindLane h p => exact request (.bindLane p)
  | unbindLane h p => exact request (.unbindLane p)
  | setLaneWeighing h p => exact request (.setLaneWeighing p)
  | suspendLane h p => exact request (.suspendLane p)
  | resumeLane h p => exact request (.resumeLane p)
  | beginZero h p => exact request (.beginZero p)
  | beginSpan h p => exact request (.beginSpan p)
  | cancelCapture h p => exact request (.cancelCapture p)
  | setCalibration h p => exact request (.setCalibration p)
  | readMoves h p => exact report (tables_readMoves p)
  | removeMoves h p => exact report (tables_removeMoves p)
  | clearJournal h p => exact report (tables_clearJournal p)
  | setWatch h p => exact report (tables_setWatch p)
  | getWatch h p => exact report (tables_getWatch p)
  | clearWatchHits h p => exact report (tables_clearWatchHits p)
  | nextCall h p => exact report (tables_nextCall p)
  | listCalls h p => exact report (tables_listCalls p)
  | takeCall h p => exact request (.takeCall p)
  | closeCall h p => exact request (.closeCall p)
  | clearCalls h p => exact request (.clearCallsRequest p)
  | setClass h p => exact request (.setClass p)
  | getClass h p => exact report (tables_getClass p)
  | setBay h p => exact report (tables_setBay p)
  | getBay h p => exact report (tables_getBay p)
  | openWindow h p => exact report (tables_openWindow p)
  | closeWindow h p => exact request (.closeWindow p)
  | setLamp h p => exact report (tables_setLamp p)
  | setPattern h p => exact report (tables_setPattern p)
  | tick t => exact tick true t
  | captureTimeout slot t => exact tick _ t
  | renotifyExpiry slot t => exact tick _ t
  | serviceExpiry slot t => exact tick _ t
  | windowExpiry bay t => exact tick _ t
  | overrideExpiry bay t => exact tick _ t
  | keyPress bay t => exact tick _ t
  | longPress bay t => exact tick _ t
  | keyRelease bay t => exact tick _ t
  | conversion rd => exact convert true rd
  | faultEntry rd => exact convert _ rd
  | faultRecovery rd => exact convert _ rd
  | plateau rd => exact convert _ rd
  | captureComplete rd => exact convert _ rd
  | powerLoss => exact callsKeptBy_execPowerLoss s
end

theorem keepsCalls_step {s t : State} (h : step s = .next t) : KeepsCalls s t := by
  unfold step at h
  split at h
  · cases h
    exact .refl s
  · next c rest _ => exact .before (t := { s with pending := rest }) rfl (callsKeptBy_exec _ c t h)

/-- Settles O55: every command keeps the two laws of the call table together. -/
theorem stepsKeepTheCallTable : Obligations.StepsKeepTheCallTable :=
  fun _ _ hs h => (keepsCalls_step h).table hs

/-- Settles O59: on lanes that stand, every command keeps calls and markers in agreement with their sources. -/
theorem stepsKeepCallsWithTheirSources : Obligations.StepsKeepCallsWithTheirSources := by
  intro s t ht _ ho hc _ hcalls hmarks h
  exact sourced_iff.mp ((keepsCalls_step h).sources (lanesStand ho hc) ht (sourced_iff.mpr ⟨hcalls, hmarks⟩))

/-- Settles O60: a step frees an entry at most twice, so that a generation that has not advanced is that of the same call. -/
theorem callsNeverBecomeLessUrgent : Obligations.CallsNeverBecomeLessUrgent := by
  intro s t h i a b ha hb hg
  rcases (keepsCalls_step h).lives with hnone | hruns
  · rw [hnone] at hb
    cases hb
  · obtain ⟨hcls, hlane, hcause, hraise⟩ := (hruns i).goesOn (by decide) hg ha hb
    exact ⟨hcls, hlane, hcause, hraise⟩

end Sys2Proof.Machine
end

section
/-! SUPPORT. Assertion, clearance and placement in the manual's words (O37, O38, O39). -/

namespace Sys2Proof.Machine

/-! ### The class rule, markers and NEW_CALL (R127, R128, R133, R134) -/

/-- R128: the more urgent of two classes. -/
theorem min_eq_moreUrgent (a k : ClassId) : min a k = if k < a then k else a := by
  rcases lt_or_ge k a with h | h
  · rw [if_pos h, min_eq_right h.le]
  · rw [if_neg (not_lt.mpr h), min_eq_left h]

/-- R127, R130, R131: what an assertion makes of the source's call. -/
theorem Call.asserted_eq (a : Call) (k : ClassId) : a.asserted k = { a with
    cls := if k < a.cls then k else a.cls
    state := if a.state = .satisfied then .taken else a.state
    rehit := a.rehit || (a.cause == .watch && a.state == .taken) } := by
  rw [← min_eq_moreUrgent]
  obtain ⟨lane, cause, cls, state, overdue, rehit, nag, repeats, raiseTick, takeTick, aging, service⟩ := a
  cases state with
  | raised => simp [Call.asserted, Call.offered]
  | taken => cases cause <;> simp [Call.asserted, Call.offered]
  | satisfied => simp [Call.asserted, Call.offered]

/-- R134: a marker that is set stays as it is, but that a WATCH marker keeps the more urgent class. -/
theorem Markers.mark_of_has {m : Markers} {c : Cause} (h : m.has c = true) (k : ClassId) : m.mark c k = { m with
    watch := if c = .watch then m.watch.map fun held => if k < held then k else held else m.watch } := by
  obtain ⟨restock, fault, watch⟩ := m
  cases c with
  | restock => cases h; simp [Markers.mark]
  | fault => cases h; simp [Markers.mark]
  | watch =>
    obtain ⟨held, rfl⟩ := Option.isSome_iff_exists.mp (show watch.isSome = true from h)
    simp [Markers.mark, min_eq_moreUrgent]

/-- R134: a WATCH marker that is set anew holds the class of the hit. -/
theorem Markers.mark_watch_of_not_has {m : Markers} (h : m.has .watch = false) (k : ClassId) :
    m.mark .watch k = { m with watch := some k } := by
  have hw : m.watch = none := by simpa [Markers.has] using h
  simp [Markers.mark, hw]

section
variable {s : State} {n : LaneId} {c : Cause} {k : ClassId}

theorem State.noteNewCall_eq (s : State) (k : ClassId) : s.noteNewCall k =
    { s with attention := { s.attention with newCall := s.attention.newCall || !(s.cls k).masked } } := by
  change (if (s.cls k).masked then s else s.notify fun a => { a with newCall := true }) = _
  cases (s.cls k).masked <;> simp [State.notify]

theorem Lane.raisable_iff {l : Lane} : l.raisable = true ↔ l.state ≠ .off ∧ l.binding.suspended = false := by
  simp [Lane.raisable]

theorem State.freeSlot_eq_some {i : SlotId} (hi : s.callAt i = none) (hlow : ∀ j, j < i → s.callAt j ≠ none) :
    s.freeSlot = some i :=
  find_finRange_eq_some (by simp [hi]) fun j hj => by simpa [Option.isSome_iff_ne_none] using hlow j hj

/-- R126: a need is met in the lowest free entry. -/
theorem State.need_of_free {i : SlotId} (hi : s.callAt i = none) (hlow : ∀ j, j < i → s.callAt j ≠ none) :
    s.need n c k = { s.putCall i (raisedCall s n c k) with
      attention := { s.attention with newCall := s.attention.newCall || !(s.cls k).masked } } := by
  rw [State.need, State.freeSlot_eq_some hi hlow]
  exact State.noteNewCall_eq _ k

/-- R126, R134: in a full table a need is marked. -/
theorem State.need_of_full (hf : ∀ i, s.callAt i ≠ none) : s.need n c k = s.mark n c k := by
  rw [State.need, State.freeSlot_none.mpr hf]

/-! ### Assertion, clearance and placement (R126 to R135) -/

theorem State.assertSource_of_call (hd : CallsDistinct s) {i : SlotId} {a : Call} (ha : s.callAt i = some a) (hl : a.lane = n)
    (hc : a.cause = c) : s.assertSource n c k = s.putCall i (a.asserted k) := by
  subst hl hc
  simp [State.assertSource, State.findCall_eq_some hd ha, ha]

section
variable (hn : ∀ i a, s.callAt i = some a → ¬(a.lane = n ∧ a.cause = c))
include hn

theorem State.assertSource_of_marker (hm : (s.marker n).has c = true) : s.assertSource n c k = s.mark n c k := by
  simp [State.assertSource, State.findCall_none.mpr hn, hm]

theorem State.assertSource_of_unraisable (hm : (s.marker n).has c = false) (hr : (s.lane n).raisable = false) :
    s.assertSource n c k = s := by
  simp [State.assertSource, State.findCall_none.mpr hn, hm, hr]

theorem State.assertSource_of_raisable (hm : (s.marker n).has c = false) (hr : (s.lane n).raisable = true) :
    s.assertSource n c k = s.need n c k := by
  simp [State.assertSource, State.findCall_none.mpr hn, hm, hr]

theorem State.clearSource_of_noCall : s.clearSource n c = s.unmark n c := by
  simp [State.clearSource, State.findCall_none.mpr hn]
end

end

/-- Settles O37: the call's state, the marker and the lane decide which of the outcomes it is. -/
theorem sourceAssertionsRaiseOrAct : Obligations.SourceAssertionsRaiseOrAct := by
  intro s n c k
  refine ⟨fun hd i a ha hl hc => ?call, fun hn => ⟨fun hm => ?marked, fun hm => ⟨fun hout => ?out, fun ho hs =>
    ⟨fun i hi hlow => ?free, fun hf => ?full⟩⟩⟩⟩
  case call => rw [State.assertSource_of_call hd ha hl hc, Call.asserted_eq]
  case marked => rw [State.assertSource_of_marker hn hm, State.mark, Markers.mark_of_has hm]
  case out =>
    refine State.assertSource_of_unraisable hn hm (Bool.eq_false_iff.mpr fun h => ?_)
    obtain ⟨ho, hs⟩ := Lane.raisable_iff.mp h
    rcases hout with h | h
    · exact ho h
    · rw [hs] at h; cases h
  case free => rw [State.assertSource_of_raisable hn hm (Lane.raisable_iff.mpr ⟨ho, hs⟩), State.need_of_free hi hlow]
  case full =>
    rw [State.assertSource_of_raisable hn hm (Lane.raisable_iff.mpr ⟨ho, hs⟩), State.need_of_full hf, State.mark]
    cases c with
    | restock => rfl
    | fault => rfl
    | watch => rw [Markers.mark_watch_of_not_has hm]

/-- Settles O38: the call's state decides; without a call the marker is cleared. -/
theorem sourceClearancesRetire : Obligations.SourceClearancesRetire := by
  intro s n c hw hd
  refine ⟨fun i a ha hl hc => ?_, fun hn => ?_⟩
  · subst hl hc
    refine ⟨fun hst => ?_, fun hst => ?_, fun hst => ?_⟩ <;>
      simp [State.clearSource, State.findCall_eq_some hd ha, ha, hst, State.freeEntry]
  · rw [State.clearSource_of_noCall hn]
    cases c with
    | restock => rfl
    | fault => rfl
    | watch => exact absurd rfl hw

/-- Settles O39. -/
theorem placementFillsFreeEntries : Obligations.PlacementFillsFreeEntries :=
  fun _ hs => State.placedFrom_place hs

end Sys2Proof.Machine
end

section
/-! SUPPORT. The requests on one call: the id's checks, TAKE_CALL and CLOSE_CALL (O34, O35). -/

namespace Sys2Proof.Machine

/-! ### The id of a call (R124, R139) -/

section
variable {s : State} {i : SlotId} {g : Byte} {k : SlotId → Call → Served}

theorem withCall_slot {slot : Byte} (h : 31 < slot.toNat) : withCall s slot g k = s.refuse .badValue := by
  rw [withCall, index_ge h]

/-- A free slot, and another generation than the id's. -/
theorem withCall_stale (h : s.callAt i = none ∨ (s.entry i).generation ≠ g) : withCall s (w8 i) g k = s.refuse .staleCall := by
  rw [withCall, index_w8 i (by decide)]
  dsimp only
  rcases h with h | h
  · rw [h]
  · cases s.callAt i with
    | none => rfl
    | some a => exact if_neg h

theorem withCall_live {a : Call} (ha : s.callAt i = some a) (hg : (s.entry i).generation = g) :
    withCall s (w8 i) g k = k i a := by
  rw [withCall, index_w8 i (by decide)]
  dsimp only
  rw [ha]
  exact if_pos hg

/-! ### TAKE_CALL and CLOSE_CALL of a live call (R140 to R142) -/

variable {a : Call} (ha : s.callAt i = some a)
include ha

theorem takeCall_live : takeCall [w8 i, (s.entry i).generation] s = require s (a.state == .raised) .wrongState
    ((s.putCall i (s.takenCall a)).accept ((s.putCall i (s.takenCall a)).recordOf i (s.takenCall a))) :=
  withCall_live ha rfl

theorem closeCall_live : closeCall [w8 i, (s.entry i).generation] s =
    require s (a.state != .raised) .wrongState (s.close i a) :=
  withCall_live ha rfl
end

/-- A rewritten call is recorded under the generation that its entry keeps. -/
theorem State.recordOf_putCall (s : State) (i : SlotId) (a b : Call) : (s.putCall i b).recordOf i a = s.recordOf i a := by
  simp only [State.recordOf, State.generation_putCall, State.lane_putCall]

/-- R141, R142: what returns to RAISED, by the call's cause. -/
theorem State.returns_iff {s : State} {a : Call} : s.returns a = true ↔
    (s.lane a.lane).binding.suspended = false ∧ a.state = .taken ∧
      ((a.cause = .watch ∧ a.rehit = true) ∨ sourceAsserted (s.lane a.lane) a.cause = true) := by
  have hsource : (if a.cause = .watch then a.rehit else (s.lane a.lane).asserts a.cause) = true ↔
      (a.cause = .watch ∧ a.rehit = true) ∨ sourceAsserted (s.lane a.lane) a.cause = true := by
    rw [Lane.asserts_eq]
    cases a.cause <;> simp [sourceAsserted]
  simp [State.returns, hsource, and_assoc]

/-- Settles O34: the id is checked first, then the call's state. -/
theorem callIdsAreCheckedAndTaken : Obligations.CallIdsAreCheckedAndTaken := by
  intro s h slot g i hs
  refine ⟨fun hslot => ⟨?_, ?_⟩, fun hstale => ⟨?_, ?_⟩, fun a ha hg => ?_⟩
  · exact serve_refused hs (by simp) (withCall_slot hslot)
  · exact serve_refused hs (by simp) (withCall_slot hslot)
  · exact serve_refused hs (by simp) (withCall_stale (s := atHunt s) hstale)
  · exact serve_refused hs (by simp) (withCall_stale (s := atHunt s) hstale)
  · subst hg
    have htake := takeCall_live (s := atHunt s) ha
    have hclose := closeCall_live (s := atHunt s) ha
    refine ⟨fun hst => ?wrong, fun hst => ?notRaised, fun hst => ?taken⟩
    case wrong => exact serve_refused hs (by simp) (htake.trans (require_false (by simpa using hst) _))
    case notRaised => exact serve_refused hs (by simp) (hclose.trans (require_false (by simp [hst]) _))
    case taken =>
      have hpass := htake.trans (require_true (by simp [hst]) _)
      rw [State.recordOf_putCall] at hpass
      exact (serve_accepted (ro := false) hs (by simp) hpass rfl).trans rfl

theorem CallsOnly.link {s t : State} (h : CallsOnly s t) : t.link = s.link := by rw [h]

/-- R141: the returned call is recorded as it now stands, with NEW_CALL under R133. -/
theorem State.close_of_returns {s : State} {a : Call} (h : s.returns a = true) (i : SlotId) : s.close i a =
    State.accept { s.putCall i (s.returnedCall a) with
        attention := { s.attention with newCall := s.attention.newCall || !(s.cls a.cls).masked } }
      (1 :: s.recordOf i (s.returnedCall a)) := by
  rw [State.close, if_pos h, State.noteNewCall_eq, ← State.recordOf_putCall s i _ (s.returnedCall a)]
  rfl

theorem State.close_of_not_returns {s : State} {a : Call} (h : ¬s.returns a = true) (i : SlotId) :
    s.close i a = (s.freeEntry i).place.accept [0] := by
  rw [State.close, if_neg h]
  rfl

/-- Settles O35: `State.returns` decides between the two outcomes. -/
theorem closeCallFreesOrReturns : Obligations.CloseCallFreesOrReturns := by
  intro s h i a hs ha hst
  have hclose : closeCall [w8 i, (s.entry i).generation] (atHunt s) = (atHunt s).close i a :=
    (closeCall_live (s := atHunt s) ha).trans (require_true (by simpa using hst) _)
  refine ⟨fun hagain => ?returned, fun hnot => ?freed⟩
  case returned =>
    exact (serve_accepted (ro := false) hs (by simp)
      (hclose.trans (State.close_of_returns (s := atHunt s) (State.returns_iff.mpr hagain) i)) rfl).trans rfl
  case freed =>
    exact serve_accepted hs (by simp) (hclose.trans (State.close_of_not_returns (s := atHunt s) (hnot ∘ State.returns_iff.mp) i))
      ((congrArg Link.unitAddress ((atHunt s).freeEntry i).touched_place.link).trans rfl)

end Sys2Proof.Machine
end

section
/-! SUPPORT. CLEAR_CALLS: the table emptied and swept over all lanes (O36). -/

namespace Sys2Proof.Machine

/-! ### Counts (R134, R146) -/

theorem State.countCalls_eq (s : State) (p : Call → Bool) : s.countCalls p = callsWith s p := by
  have h : s.calls.toList = (List.finRange 32).map s.entry := by
    apply List.ext_getElem <;> simp [State.entry]
  rw [State.countCalls, h, List.countP_map, callsWith]
  refine List.countP_congr fun i _ => ?_
  simp only [Function.comp, State.callAt]
  cases (s.entry i).call <;> rfl

theorem Markers.count_eq (m : Markers) : m.count = ([Cause.restock, .fault, .watch].filter m.has).length := by
  obtain ⟨restock, fault, watch⟩ := m
  cases restock <;> cases fault <;> cases watch <;> rfl

theorem State.unplaced_eq (s : State) : s.unplaced = markersSet s := by
  have h : s.markers.toList = (List.finRange 48).map s.marker := by
    apply List.ext_getElem <;> simp [State.marker]
  simp [State.unplaced, h, markersSet, List.length_flatMap, Markers.count_eq, Function.comp_def]

/-! ### The sweep of several lanes (R145) -/

section
variable {s : State} {lanes : List LaneId}

/-- R126, R145: the first needs are raised in the free entries from the lowest on; the others are marked. -/
theorem State.sweep_eq_raiseAll (s : State) (lanes : List LaneId) : s.sweep lanes =
    (s.raiseAll (s.freeSlots.zip (s.sweptAll lanes))).markAll ((s.sweptAll lanes).drop s.freeSlots.length) :=
  State.foldl_need_eq _ s

theorem State.generation_sweepAll (i : SlotId) : ((s.sweep lanes).entry i).generation = (s.entry i).generation := by
  rw [State.sweep_eq_raiseAll, State.entry_markAll, State.generation_raiseAll]

theorem State.callAt_sweepAll_of_mem {i : SlotId} {x : Need} (h : (i, x) ∈ s.freeSlots.zip (s.sweptAll lanes)) :
    (s.sweep lanes).callAt i = some (s.newCall x.lane x.cause x.cls) := by
  rw [State.sweep_eq_raiseAll, State.callAt_markAll,
    State.callAt_raiseAll_of_mem (nodup_fst_zip (s.freeSlots_pairwise.imp ne_of_lt)) h]

/-- What a free entry holds after the sweep stands for a need paired with it. -/
theorem State.callAt_sweepAll {i : SlotId} {a : Call} (hs : s.callAt i = none) : (s.sweep lanes).callAt i = some a ↔
    ∃ x, (i, x) ∈ s.freeSlots.zip (s.sweptAll lanes) ∧ a = s.newCall x.lane x.cause x.cls := by
  refine ⟨fun h => ?_, fun ⟨x, hx, ha⟩ => ha ▸ State.callAt_sweepAll_of_mem hx⟩
  by_cases hx : ∃ x, (i, x) ∈ s.freeSlots.zip (s.sweptAll lanes)
  · obtain ⟨x, hx⟩ := hx
    rw [State.callAt_sweepAll_of_mem hx, Option.some.injEq] at h
    exact ⟨x, hx, h.symm⟩
  · rw [State.sweep_eq_raiseAll, State.callAt_markAll, State.callAt_raiseAll_of_not_mem (not_exists.mp hx), hs] at h
    cases h

theorem State.has_sweepAll {m : LaneId} {c : Cause} : ((s.sweep lanes).marker m).has c = true ↔
    (s.marker m).has c = true ∨ ∃ x ∈ (s.sweptAll lanes).drop s.freeSlots.length, x.lane = m ∧ x.cause = c := by
  rw [State.sweep_eq_raiseAll, State.has_markAll, State.marker_raiseAll]

/-- R133: the sweep's raises in unmasked classes set NEW_CALL. -/
theorem State.notice_sweepAll : (s.sweep lanes).attention.newCall = true ↔ s.attention.newCall = true ∨
    ∃ i a, s.callAt i = none ∧ (s.sweep lanes).callAt i = some a ∧ (s.cls a.cls).masked = false := by
  rw [State.sweep_eq_raiseAll, State.attention_markAll, State.notice_raiseAll, ← State.sweep_eq_raiseAll]
  refine or_congr_right ⟨?_, ?_⟩
  · rintro ⟨p, hp, hm⟩
    exact ⟨p.1, _, State.mem_freeSlots.mp (List.of_mem_zip hp).1, State.callAt_sweepAll_of_mem hp, hm⟩
  · rintro ⟨i, a, hs, ha, hm⟩
    obtain ⟨x, hx, rfl⟩ := (State.callAt_sweepAll hs).mp ha
    exact ⟨_, hx, hm⟩

/-! ### The sweep of an emptied table (R146) -/

variable (hc : ∀ i, s.callAt i = none) (hm : ∀ n, s.marker n = Markers.clear)
include hc hm

/-- Without calls and markers every asserted source that may be raised for is a need. -/
theorem State.mem_sweptAll_of_empty {n : LaneId} {c : Cause} : (⟨n, c, s.needClass n c⟩ : Need) ∈ s.sweptAll (List.finRange 48) ↔
    (s.lane n).raisable = true ∧ sourceAsserted (s.lane n) c = true := by
  simp [State.mem_sweptAll, State.unmet_iff, hc, hm]

/-- R145: each need gets its call or its marker. -/
theorem State.raisable_asserted_iff_of_empty {n : LaneId} {c : Cause} :
    ((s.lane n).raisable = true ∧ sourceAsserted (s.lane n) c = true) ↔
      (∃ i a, (s.sweep (List.finRange 48)).callAt i = some a ∧ a.lane = n ∧ a.cause = c) ∨
        ((s.sweep (List.finRange 48)).marker n).has c = true := by
  rw [← State.mem_sweptAll_of_empty hc hm]
  constructor
  · intro h
    rw [← List.take_append_drop s.freeSlots.length (s.sweptAll _), List.mem_append] at h
    rcases h with h | h
    · obtain ⟨i, hi⟩ := exists_zip_of_mem_take h
      exact .inl ⟨i, _, State.callAt_sweepAll_of_mem hi, rfl, rfl⟩
    · exact .inr (State.has_sweepAll.mpr (.inr ⟨_, h, rfl, rfl⟩))
  · have isNeed : ∀ x ∈ s.sweptAll (List.finRange 48), (⟨x.lane, x.cause, s.needClass x.lane x.cause⟩ : Need) ∈
        s.sweptAll (List.finRange 48) := fun x hx => by
      rw [← (State.mem_sweptAll.mp hx).2.2]
      exact hx
    rintro (⟨i, a, ha, rfl, rfl⟩ | h)
    · obtain ⟨x, hx, rfl⟩ := (State.callAt_sweepAll (hc i)).mp ha
      exact isNeed x (List.of_mem_zip hx).2
    · obtain ⟨x, hx, rfl, rfl⟩ := (State.has_sweepAll.mp h).resolve_left (by simp [hm])
      exact isNeed x (List.mem_of_mem_drop hx)
end

/-! ### CLEAR_CALLS (R146) -/

/-- Every entry freed and every marker cleared, ahead of the sweep. -/
def State.emptied (s : State) : State :=
  { s.freeWhere (fun _ => true) with markers := Vector.replicate 48 Markers.clear }

theorem State.clearCalls_eq (s : State) : s.clearCalls = s.emptied.sweep (List.finRange 48) := rfl

theorem CallsOnly.device {s t : State} (h : CallsOnly s t) : t.device = s.device := by rw [h]

theorem State.touched_emptied (s : State) : CallsOnly s s.emptied := by
  unfold State.emptied
  have h := s.touched_freeWhere fun _ => true
  generalize (s.freeWhere fun _ => true) = t at h ⊢
  exact h.trans (t.touched_clearMarkers _)

theorem State.marker_emptied (s : State) (n : LaneId) : s.emptied.marker n = Markers.clear := by
  simp [State.marker, State.emptied]

theorem State.attention_emptied (s : State) : s.emptied.attention = s.attention := by
  simp only [State.emptied, State.freeWhere_attention]

theorem State.entry_withMarkers (s : State) (m : Vector Markers 48) (i : SlotId) :
    State.entry { s with markers := m } i = s.entry i := rfl

theorem State.entry_emptied (s : State) (i : SlotId) :
    s.emptied.entry i = { generation := (s.entry i).generation + if (s.callAt i).isSome then 1 else 0, call := none } := by
  rw [State.emptied, State.entry_withMarkers, State.entry_freeWhere, State.callAt]
  rcases s.entry i with ⟨g, _ | a⟩ <;> simp

theorem State.callAt_emptied (s : State) (i : SlotId) : s.emptied.callAt i = none := by rw [State.callAt, State.entry_emptied]

/-- The class of an asserted source is none of the call controller's own state. -/
theorem CallsOnly.needClass_of_asserted {s t : State} (h : CallsOnly s t) {n : LaneId} {c : Cause}
    (hc : sourceAsserted (s.lane n) c = true) : t.needClass n c = s.needClass n c := by
  cases c with
  | restock => simp only [State.needClass, h.lane]
  | fault => simp only [State.needClass, h.device]
  | watch => cases hc

/-- Settles O36: the emptied table's needs are all asserted sources that may be raised for, and the sweep meets or marks them in
order. -/
theorem clearCallsStartsAfresh : Obligations.ClearCallsStartsAfresh := by
  intro s h hs
  have hserve : clearCallsRequest [] (atHunt s) =
      (atHunt s).clearCalls.accept [w8 (callsWith s fun _ => true), w8 (markersSet s)] := by
    rw [clearCallsRequest, State.countCalls_eq, State.unplaced_eq]
    rfl
  have ht := (atHunt s).touched_clearCalls
  refine ⟨_, serve_accepted hs (by simp) hserve ((congrArg Link.unitAddress ht.link).trans rfl), ht, ?_⟩
  have hu := (atHunt s).touched_emptied
  have hcalls := (atHunt s).callAt_emptied
  have hmarks := (atHunt s).marker_emptied
  have hnote : (atHunt s).emptied.attention = s.attention := (atHunt s).attention_emptied
  have hgen := fun i => congrArg CallEntry.generation ((atHunt s).entry_emptied i)
  rw [State.clearCalls_eq]
  generalize (atHunt s).emptied = u at *
  have hl : u.lane = s.lane := funext hu.lane
  have hk : u.cls = s.cls := funext hu.cls
  have needed : ∀ x ∈ u.sweptAll (List.finRange 48), carriedClass s x.lane x.cause = some x.cls := fun x hx => by
    obtain ⟨-, hun, hcls⟩ := State.mem_sweptAll.mp hx
    obtain ⟨-, hasserted, -, -⟩ := State.unmet_iff.mp hun
    rw [hl] at hasserted
    rw [State.carriedClass_of_asserted hasserted, hcls, hu.needClass_of_asserted hasserted]
    rfl
  have law : CallTableLaw (u.sweep (List.finRange 48)) :=
    (callTableLaw_empty hcalls hmarks).sweep (List.pairwise_lt_finRange 48)
  have order := u.sweptAll_pairwise (List.pairwise_lt_finRange 48)
  refine ⟨fun i => (State.generation_sweepAll i).trans (hgen i), fun n c => ⟨?stands, law.2 n c⟩, law.1, fun i a ha => ?raised,
    fun i j b hij hb => ?lower, fun i a n c k ha hn hc => ?marked, ?notice⟩
  case stands =>
    rw [← State.raisable_asserted_iff_of_empty hcalls hmarks, Lane.raisable_iff, hl, and_assoc]
  case raised =>
    obtain ⟨x, hx, rfl⟩ := (State.callAt_sweepAll (hcalls i)).mp ha
    exact ⟨(needed x (List.of_mem_zip hx).2).symm, hu.newCall _ _ _⟩
  case lower =>
    obtain ⟨y, hy, rfl⟩ := (State.callAt_sweepAll (hcalls j)).mp hb
    obtain ⟨x, hx, hxy⟩ := zip_before u.freeSlots_pairwise (fun _ _ => lt_asymm) order hy (State.mem_freeSlots.mpr (hcalls i)) hij
    exact ⟨_, State.callAt_sweepAll_of_mem hx, hxy⟩
  case marked =>
    obtain ⟨x, hx, rfl⟩ := (State.callAt_sweepAll (hcalls i)).mp ha
    obtain ⟨y, hy, rfl, rfl⟩ := (State.has_sweepAll.mp hn).resolve_left (by simp [hmarks])
    have hxy := zip_before_rest order hx hy
    rw [needed y (List.mem_of_mem_drop hy), Option.some.injEq] at hc
    exact hc ▸ hxy
  case notice =>
    rw [State.notice_sweepAll]
    simp only [hcalls, true_and, hk, hnote]

end Sys2Proof.Machine
end

section
/-! SUPPORT. The offer and the listing of calls (O33). -/

namespace Sys2Proof.Machine

/-! ### The offer (R137) -/

/-- The offer so far and the call of one more slot. -/
def State.betterOffer (s : State) (best : Option (SlotId × Call)) (i : SlotId) : Option (SlotId × Call) :=
  match s.callAt i with
  | some c =>
    if s.offerable c then
      match best with
      | some (j, b) => if s.offeredBefore c b then some (i, c) else some (j, b)
      | none => some (i, c)
    else best
  | none => best

theorem State.offer_eq (s : State) : s.offer = (List.finRange 32).foldl s.betterOffer none := rfl

/-- The offer among the slots listed: none when no call of theirs is offerable, otherwise the one offered first. -/
def State.OfferAmong (s : State) (l : List SlotId) : Option (SlotId × Call) → Prop
  | none => ∀ i ∈ l, ∀ a, s.callAt i = some a → s.offerable a = false
  | some (i, a) => i ∈ l ∧ s.callAt i = some a ∧ s.offerable a = true ∧
      ∀ j ∈ l, ∀ b, s.callAt j = some b → s.offerable b = true → j ≠ i → offersBefore s i a j b

section
variable {s : State} {a b : Call} {i j : SlotId}

theorem State.offeredBefore_iff : s.offeredBefore a b = true ↔
    a.cls < b.cls ∨ (a.cls = b.cls ∧ judgedAge s b.raiseTick < judgedAge s a.raiseTick) := by
  simp [State.offeredBefore, State.age_eq_judgedAge]

/-- A call in a lower slot that is not displaced is offered first. -/
theorem offersBefore_of_not_offeredBefore (h : ¬s.offeredBefore b a = true) (hij : i < j) : offersBefore s i a j b := by
  rw [State.offeredBefore_iff] at h
  simp only [offersBefore, Fin.lt_def, Fin.ext_iff] at *
  omega

theorem offersBefore_trans {c : Call} {k : SlotId} (h : offersBefore s i a j b) (g : offersBefore s j b k c) :
    offersBefore s i a k c := by
  simp only [offersBefore, Fin.lt_def, Fin.ext_iff] at *
  omega

theorem offersBefore_asymm (h : offersBefore s i a j b) : ¬offersBefore s j b i a := by
  simp only [offersBefore, Fin.lt_def, Fin.ext_iff] at *
  omega

theorem offersBefore_of_offeredBefore (h : s.offeredBefore a b = true) : offersBefore s i a j b := by
  rcases State.offeredBefore_iff.mp h with h | ⟨he, h⟩
  · exact .inl h
  · exact .inr ⟨he, .inl h⟩

end

/-- A slot without an offerable call leaves the offer as it is. -/
theorem State.OfferAmong.skip {s : State} {l : List SlotId} {best : Option (SlotId × Call)} {x : SlotId}
    (h : s.OfferAmong l best) (hx : ∀ a, s.callAt x = some a → s.offerable a = false) : s.OfferAmong (l ++ [x]) best := by
  cases best with
  | none =>
    intro i hi
    rcases List.mem_append.mp hi with hi | hi
    · exact h i hi
    · exact List.mem_singleton.mp hi ▸ hx
  | some p =>
    obtain ⟨hi, ha, ho, hfirst⟩ := h
    refine ⟨List.mem_append_left _ hi, ha, ho, fun j hj b hb hob hne => ?_⟩
    rcases List.mem_append.mp hj with hj | hj
    · exact hfirst j hj b hb hob hne
    · rw [hx b (List.mem_singleton.mp hj ▸ hb)] at hob
      cases hob

/-- An offerable call takes the offer's place, or comes after it. -/
theorem State.OfferAmong.snoc {s : State} {l : List SlotId} {best : Option (SlotId × Call)} {x : SlotId}
    (h : s.OfferAmong l best) (hx : ∀ i ∈ l, i < x) : s.OfferAmong (l ++ [x]) (s.betterOffer best x) := by
  unfold State.betterOffer
  cases hc : s.callAt x with
  | none => exact h.skip fun a ha => by simp [hc] at ha
  | some c =>
    dsimp only
    split
    case isFalse ho => exact h.skip fun a ha => by simp_all
    case isTrue ho =>
      cases best with
      | none =>
        refine ⟨by simp, hc, ho, fun j hj b hb hob hne => ?_⟩
        rcases List.mem_append.mp hj with hj | hj
        · rw [h j hj b hb] at hob
          cases hob
        · exact absurd (List.mem_singleton.mp hj) hne
      | some p =>
        obtain ⟨i, a⟩ := p
        obtain ⟨hi, ha, hoa, hfirst⟩ := h
        dsimp only
        split
        case isTrue hahead =>
          refine ⟨by simp, hc, ho, fun j hj b hb hob hne => ?_⟩
          rcases List.mem_append.mp hj with hj | hj
          · by_cases e : j = i
            · subst e
              rw [ha] at hb
              cases hb
              exact offersBefore_of_offeredBefore hahead
            · exact offersBefore_trans (offersBefore_of_offeredBefore hahead) (hfirst j hj b hb hob e)
          · exact absurd (List.mem_singleton.mp hj) hne
        case isFalse hahead =>
          refine ⟨List.mem_append_left _ hi, ha, hoa, fun j hj b hb hob hne => ?_⟩
          rcases List.mem_append.mp hj with hj | hj
          · exact hfirst j hj b hb hob hne
          · rw [List.mem_singleton] at hj
            subst hj
            rw [hc] at hb
            cases hb
            exact offersBefore_of_not_offeredBefore hahead (hx i hi)

theorem State.offerAmong_foldl (s : State) {l : List SlotId} (hl : l.Pairwise (· < ·)) :
    s.OfferAmong l (l.foldl s.betterOffer none) := by
  induction l using List.reverseRecOn with
  | nil => exact fun i hi => absurd hi List.not_mem_nil
  | append_singleton l x ih =>
    obtain ⟨hl, -, hx⟩ := List.pairwise_append.mp hl
    rw [List.foldl_append]
    exact (ih hl).snoc fun i hi => hx i hi x (List.mem_singleton.mpr rfl)

theorem State.offerAmong_offer (s : State) : s.OfferAmong (List.finRange 32) s.offer := by
  rw [State.offer_eq]
  exact s.offerAmong_foldl (List.pairwise_lt_finRange 32)

/-- R137: without an offerable call there is no offer. -/
theorem State.offer_none {s : State} (h : ∀ i a, s.callAt i = some a → s.offerable a = false) : s.offer = none := by
  have ho := s.offerAmong_offer
  cases e : s.offer with
  | none => rfl
  | some p =>
    rw [e] at ho
    obtain ⟨-, ha, hp, -⟩ := ho
    rw [h _ _ ha] at hp
    cases hp

/-- R137: the offerable call before all others is the offer. -/
theorem State.offer_some {s : State} {i : SlotId} {a : Call} (ha : s.callAt i = some a) (hoff : s.offerable a = true)
    (hfirst : ∀ j b, s.callAt j = some b → s.offerable b = true → j ≠ i → offersBefore s i a j b) : s.offer = some (i, a) := by
  have ho := s.offerAmong_offer
  cases e : s.offer with
  | none =>
    rw [e] at ho
    rw [ho i (List.mem_finRange i) a ha] at hoff
    cases hoff
  | some p =>
    obtain ⟨j, b⟩ := p
    rw [e] at ho
    obtain ⟨-, hb, hob, hbest⟩ := ho
    by_cases hj : j = i
    · subst hj
      rw [ha] at hb
      cases hb
      rfl
    · exact absurd (hfirst j b hb hob hj) (offersBefore_asymm (hbest i (List.mem_finRange i) a ha hoff (Ne.symm hj)))

/-! ### NEXT_CALL and LIST_CALLS (R137, R138) -/

/-- The images that there are, are those of the members with one. -/
theorem filterMap_eq_map_getD {α β : Type} (f : α → Option β) (d : β) (l : List α) :
    l.filterMap f = (l.filter fun x => (f x).isSome).map fun x => (f x).getD d := by
  induction l with
  | nil => rfl
  | cons x l ih => cases h : f x <;> simp [h, ih]

/-- R138: the records are those of the occupied slots, in slot order. -/
theorem State.recordsFrom_eq (s : State) (i : SlotId) : s.recordsFrom i =
    ((List.finRange 32).filter fun j => decide (i ≤ j) && (s.callAt j).isSome).map
      fun j => ((s.callAt j).map (s.recordOf j)).getD [] := by
  rw [State.recordsFrom, filterMap_eq_map_getD _ [], List.filter_filter]
  simp [Bool.and_comm]

theorem listCalls_w8 (s : State) (i : SlotId) :
    let slots := ((List.finRange 32).filter fun j => decide (i ≤ j) && (s.callAt j).isSome).take 8
    listCalls [w8 i] s = s.accept
      (w8 slots.length :: slots.flatMap fun j => ((s.callAt j).map (s.recordOf j)).getD []) := by
  rw [listCalls, index_w8 i (by decide)]
  simp only [State.recordsFrom_eq, Config.listCallsMax, ← List.map_take, List.length_map, List.flatMap_def]

theorem nextCall_none {s : State} (h : ∀ i a, s.callAt i = some a → s.offerable a = false) :
    nextCall [] s = s.accept [0, 0] := by
  have hcount : s.countCalls s.offerable = 0 := by
    rw [State.countCalls_eq, callsWith, List.countP_eq_zero]
    intro i _
    cases ha : s.callAt i with
    | none => simp
    | some a => simp [h i a ha]
  simp only [nextCall, hcount, State.offer_none h]
  rfl

theorem nextCall_some {s : State} {i : SlotId} {a : Call} (h : s.offer = some (i, a)) :
    nextCall [] s = s.accept ([w8 (callsWith s s.offerable), 1] ++ s.recordOf i a) := by
  simp only [nextCall, State.countCalls_eq, h]
  rfl

/-- Settles O33: the offer is the best of a search over the slots, and the listing a filter of them. -/
theorem callReportsShowTheTable : Obligations.CallReportsShowTheTable := by
  intro s h hs
  refine ⟨fun hnone => ?none, fun i a ha hoff hfirst => ?offer, fun i => ?list, fun b hb => ?refused⟩
  case none => exact (serve_accepted hs (by simp) (nextCall_none (s := atHunt s) hnone) rfl).trans rfl
  case offer =>
    have ho : (atHunt s).offer = some (i, a) := State.offer_some ha hoff hfirst
    exact (serve_accepted hs (by simp) (nextCall_some ho) rfl).trans rfl
  case list => exact (serve_accepted hs (by simp) (listCalls_w8 (atHunt s) i) rfl).trans rfl
  case refused =>
    refine serve_refused hs (by simp) (?_ : listCalls [b] (atHunt s) = _)
    rw [listCalls, index_ge hb]

end Sys2Proof.Machine
end

section
/-! SUPPORT. The call controller's tick: one call's timers case by case, the whole table, and the other blocks' ticks around it
(O43). -/

namespace Sys2Proof.Machine

/-! ### The timers of one call (R153 to R158) -/

section
variable {s : State} {a : Call}

section
variable (hst : a.state = .raised)
include hst

/-- R154: an aging timer that is stopped, or frozen by its class's mask, does not run. -/
theorem callTick_frozen (h : a.aging = none ∨ (s.cls a.cls).masked = true) : s.callTick a = (a, .none) := by
  rcases h with h | h
  · simp [State.callTick, hst, h]
  · cases hv : a.aging <;> simp [State.callTick, hst, hv, h]

theorem callTick_aging {v : Nat} (hm : (s.cls a.cls).masked = false) (hv : a.aging = some (v + 2)) :
    s.callTick a = ({ a with aging := some (v + 1) }, .none) := by
  simp [State.callTick, hst, hv, hm]

theorem callTick_renotify {v : Nat} (hm : (s.cls a.cls).masked = false) (hv : a.aging = some v) (hlow : v ≤ 1) :
    s.callTick a = (s.renotified a, .renotify) := by
  simp [State.callTick, hst, hv, hm, hlow]

end

section
variable (hst : a.state = .taken)
include hst

theorem callTick_service {v : Nat} (hv : a.service = some (v + 2)) :
    s.callTick a = ({ a with service := some (v + 1) }, .none) := by
  simp [State.callTick, hst, hv]

theorem callTick_overdue (hv : a.service = some 1) : s.callTick a = (a.expired, .overdue) := by
  simp [State.callTick, hst, hv]

theorem callTick_unserved (h : a.service = none ∨ a.service = some 0) : s.callTick a = (a, .none) := by
  rcases h with h | h <;> simp [State.callTick, hst, h]

end

theorem callTick_satisfied (hst : a.state = .satisfied) : s.callTick a = (a, .none) := by
  simp [State.callTick, hst]

/-- R155: a tick makes a renotify expiry of a call exactly when its aging timer runs and is at its end. -/
theorem callTick_renotify_iff : (s.callTick a).2 = .renotify ↔
    a.state = .raised ∧ (s.cls a.cls).masked = false ∧ ∃ v ≤ 1, a.aging = some v := by
  refine ⟨fun h => ?_, fun ⟨hst, hm, v, hlow, hv⟩ => by rw [callTick_renotify hst hm hv hlow]⟩
  unfold State.callTick at h
  split at h
  · next hst =>
    split at h
    · next v hv =>
      split at h
      · cases h
      · next hm =>
        split at h
        · next hlow => exact ⟨hst, by simpa using hm, v, hlow, hv⟩
        · cases h
    · cases h
  · split at h
    · cases h
    · split at h <;> cases h
    · cases h
  · cases h

/-- R158: a tick makes a service expiry of a call exactly when its service timer is at its end. -/
theorem callTick_overdue_iff : (s.callTick a).2 = .overdue ↔ a.state = .taken ∧ a.service = some 1 := by
  refine ⟨fun h => ?_, fun ⟨hst, hv⟩ => by rw [callTick_overdue hst hv]⟩
  unfold State.callTick at h
  split at h
  · split at h
    · split at h
      · cases h
      · split at h <;> cases h
    · cases h
  · next hst =>
    split at h
    · cases h
    · next v hv =>
      split at h
      · next hv0 => exact ⟨hst, by rw [hv, hv0]⟩
      · cases h
    · cases h
  · cases h

end

/-- R156: the class's escalate after, reached by the new nag count, moves the call one class up and starts the count again. -/
theorem escalated_reached {r : ClassRecord} {c : ClassId} {nag : Nat}
    (h : 0 < r.escalateAfter ∧ r.escalateAfter ≤ min 15 (nag + 1)) :
    (escalated r c nag).1.val = c.val - 1 ∧ (escalated r c nag).2 = 0 := by
  rw [escalated, if_pos h]
  exact ⟨rfl, rfl⟩

theorem escalated_not_reached {r : ClassRecord} {c : ClassId} {nag : Nat}
    (h : ¬(0 < r.escalateAfter ∧ r.escalateAfter ≤ min 15 (nag + 1))) : escalated r c nag = (c, min 15 (nag + 1)) :=
  if_neg h

/-! ### The whole table (R153, R155, R158) -/

theorem State.entry_callsTick (s : State) (i : SlotId) :
    s.callsTick.entry i = { s.entry i with call := (s.callAt i).map fun a => (s.callTick a).1 } := by
  simp only [State.callsTick, State.callAt, State.entry, mapTable_get]
  generalize s.calls[i] = e
  obtain ⟨g, call⟩ := e
  cases call <;> rfl

/-- An expiry somewhere in the table, found by its slot. -/
theorem State.any_timerEvent (s : State) (ev : TimerEvent) (h : ev ≠ .none) :
    (s.calls.toList.any fun e => s.timerEvent e == ev) = true ↔
      ∃ i : SlotId, ∃ a, s.callAt i = some a ∧ (s.callTick a).2 = ev := by
  have hevent : ∀ e : CallEntry, s.timerEvent e = ev ↔ ∃ a, e.call = some a ∧ (s.callTick a).2 = ev := fun e => by
    unfold State.timerEvent
    cases e.call <;> simp [Ne.symm h]
  have hlist : s.calls.toList = (List.finRange 32).map s.entry := by
    apply List.ext_getElem <;> simp [State.entry]
  simp [hlist, hevent, State.callAt]

/-- R155: RENOTIFY after the tick, no aging timer standing at 0. -/
theorem State.renotify_callsTick {s : State} (h : ∀ i a, s.callAt i = some a → a.aging ≠ some 0) :
    s.callsTick.attention.renotify = true ↔ s.attention.renotify = true ∨
      ∃ i : SlotId, ∃ a, s.callAt i = some a ∧ a.state = .raised ∧ (s.cls a.cls).masked = false ∧ a.aging = some 1 := by
  refine Bool.or_eq_true_iff.trans (or_congr_right ((s.any_timerEvent .renotify (by decide)).trans ?_))
  refine exists_congr fun i => exists_congr fun a => and_congr_right fun ha => ?_
  rw [callTick_renotify_iff]
  refine and_congr_right fun _ => and_congr_right fun _ => ⟨fun ⟨v, hlow, hv⟩ => ?_, fun hv => ⟨1, le_rfl, hv⟩⟩
  have hpos : v ≠ 0 := fun h0 => h i a ha (h0 ▸ hv)
  rw [hv, show v = 1 by omega]

/-- R158: OVERDUE after the tick. -/
theorem State.overdue_callsTick (s : State) :
    s.callsTick.attention.overdue = true ↔ s.attention.overdue = true ∨
      ∃ i : SlotId, ∃ a, s.callAt i = some a ∧ a.state = .taken ∧ a.service = some 1 := by
  refine Bool.or_eq_true_iff.trans (or_congr_right ((s.any_timerEvent .overdue (by decide)).trans ?_))
  simp only [callTick_overdue_iff]

/-! ### The ticks of the capture unit and of the bays around it (R86, R169) -/

/-- Everything but the lanes, the capture slots and the bays is the same in `t` as in `s`. -/
abbrev LanesAndBaysOnly (s t : State) : Prop :=
  t = { s with lanes := t.lanes, captures := t.captures, bays := t.bays }

theorem LanesAndBaysOnly.refl (s : State) : LanesAndBaysOnly s s := rfl

theorem LanesAndBaysOnly.trans {s t u : State} (h : LanesAndBaysOnly s t) (k : LanesAndBaysOnly t u) :
    LanesAndBaysOnly s u := by
  unfold LanesAndBaysOnly at *
  rw [k]
  conv_lhs => rw [h]

theorem LanesAndBaysOnly.foldl {α : Type} {f : State → α → State} (h : ∀ u a, LanesAndBaysOnly u (f u a)) (l : List α)
    (s : State) : LanesAndBaysOnly s (l.foldl f s) :=
  List.foldlRecOn (motive := LanesAndBaysOnly s) l f (.refl s) fun u hu a _ => hu.trans (h u a)

theorem LanesAndBaysOnly.captureTick (s : State) (i : CaptureId) : LanesAndBaysOnly s (s.captureTick i) := by
  unfold State.captureTick
  split
  · split <;> rfl
  · rfl

theorem LanesAndBaysOnly.windowCountdown (s : State) (b : BayId) : LanesAndBaysOnly s (s.windowCountdown b) := by
  unfold State.windowCountdown
  split
  · split <;> rfl
  · rfl

theorem LanesAndBaysOnly.keyStep (s : State) (b : BayId) (down : Bool) : LanesAndBaysOnly s (s.keyStep b down) := by
  unfold State.keyStep
  dsimp only
  split
  · split
    case h_4 => split <;> rfl
    all_goals rfl
  · rfl

theorem LanesAndBaysOnly.overrideCountdown (s : State) (b : BayId) : LanesAndBaysOnly s (s.overrideCountdown b) := by
  unfold State.overrideCountdown
  split
  · split <;> rfl
  · rfl

theorem LanesAndBaysOnly.bayTick (keys : BitVec 6) (s : State) (b : BayId) : LanesAndBaysOnly s (s.bayTick keys b) :=
  (((LanesAndBaysOnly.windowCountdown s b).trans (.keyStep _ b _)).trans (u := State.lampStep _ b) rfl).trans
    (.overrideCountdown _ b)

/-- `t` is `s` after a tick of which the call controller's part is `State.callsTick`; the lanes, the slots and the bays are left
open. -/
abbrev CallsTicked (s t : State) : Prop :=
  t = { s with
    tick := s.tick + 1, lanes := t.lanes, captures := t.captures, bays := t.bays
    calls := s.callsTick.calls, attention := s.callsTick.attention }

/-- The call controller's tick reads nothing that the other blocks' ticks write. -/
theorem CallsTicked.between {s t u : State} (h : LanesAndBaysOnly { s with tick := s.tick + 1 } t)
    (k : LanesAndBaysOnly t.callsTick u) : CallsTicked s u := by
  unfold LanesAndBaysOnly CallsTicked at *
  generalize t.lanes = l, t.captures = c, t.bays = b at h
  subst h
  exact k

/-- R153: whatever the order of the blocks at a tick, the call controller ticks once, on the calls as they stood. -/
theorem CallsTicked.ticked (s : State) (ti : TickInput) : CallsTicked s (s.ticked ti) := by
  have caps : ∀ u : State, LanesAndBaysOnly u u.capturesTick := fun u => .foldl LanesAndBaysOnly.captureTick _ u
  have bays : ∀ u : State, LanesAndBaysOnly u (u.baysTick ti.keysDown) := fun u =>
    .foldl (LanesAndBaysOnly.bayTick ti.keysDown) _ u
  unfold State.ticked
  dsimp only
  cases ti.baysBeforeCaptures <;> cases ti.baysBeforeCalls <;> simp only [if_true, if_false, Bool.false_eq_true]
  · exact .between (caps _) (bays _)
  · exact .between ((caps _).trans (bays _)) (.refl _)
  · exact .between (.refl _) ((bays _).trans (caps _))
  · exact .between ((bays _).trans (caps _)) (.refl _)

/-! ### TICK, RENOTIFY_EXPIRY and SERVICE_EXPIRY (R153, R155, R158) -/

section
variable {s : State} {i : SlotId}

theorem State.callDue_of_callAt {a : Call} (h : s.callAt i = some a) : s.callDue i = (s.callTick a).2 := by
  rw [State.callAt] at h
  rw [State.callDue, State.timerEvent, h]

theorem exec_renotifyExpiry (h : s.callDue i = .renotify) (ti : TickInput) :
    exec (.renotifyExpiry i ti) s = exec (.tick ti) s := by
  have e : exec (.renotifyExpiry i ti) s = .next (tickIf (s.callDue i == .renotify) ti s) := rfl
  rw [e, h]
  rfl

theorem exec_serviceExpiry (h : s.callDue i = .overdue) (ti : TickInput) :
    exec (.serviceExpiry i ti) s = exec (.tick ti) s := by
  have e : exec (.serviceExpiry i ti) s = .next (tickIf (s.callDue i == .overdue) ti s) := rfl
  rw [e, h]
  rfl

end

/-- Settles O43: the call controller ticks once, each call by the case that its state and its timer name. -/
theorem ticksRunTheCallTimers : Obligations.TicksRunTheCallTimers := by
  intro s ti hs
  have ht := CallsTicked.ticked s ti
  have htick := exec_tick hs ti
  generalize s.ticked ti = t at ht htick
  have hcalls : t.calls = s.callsTick.calls := by rw [ht]
  have hattention : t.attention = s.callsTick.attention := by rw [ht]
  have hentry : ∀ i, t.entry i = { s.entry i with call := (s.callAt i).map fun a => (s.callTick a).1 } := fun i => by
    rw [State.entry, hcalls]
    exact s.entry_callsTick i
  refine ⟨t, htick, ?frame, fun i => ⟨?generation, fun hi => ?free, fun a hi => ?call⟩, fun h => ?renotify, ?overdue⟩
  case frame => rwa [hcalls, hattention]
  case generation => rw [hentry]
  case free => rw [State.callAt, hentry, hi]; rfl
  case renotify => rw [hattention]; exact State.renotify_callsTick h
  case overdue => rw [hattention]; exact s.overdue_callsTick
  case call =>
    have hcall : t.callAt i = some (s.callTick a).1 := by rw [State.callAt, hentry, hi]; rfl
    have hdue := State.callDue_of_callAt hi
    refine ⟨fun hst hoff => ?frozen, fun v hst hm hv => ?aging, fun hst hm hv => ?expires, fun v hst hv => ?service,
      fun hst hv => ?runsOut, fun hst hv => ?unserved, fun hst => ?satisfied⟩
    case frozen => rw [hcall, callTick_frozen hst hoff]
    case aging => rw [hcall, callTick_aging hst hm hv]
    case service => rw [hcall, callTick_service hst hv]
    case unserved => rw [hcall, callTick_unserved hst hv]
    case satisfied => rw [hcall, callTick_satisfied hst]
    case expires =>
      rw [callTick_renotify hst hm hv le_rfl] at hcall hdue
      refine ⟨(exec_renotifyExpiry hdue ti).trans htick, s.renotified a, hcall, escalated_reached, fun hnot => ?_, rfl⟩
      have hstays := escalated_not_reached (c := a.cls) hnot
      exact ⟨congrArg Prod.fst hstays, congrArg Prod.snd hstays⟩
    case runsOut =>
      rw [callTick_overdue hst hv] at hcall hdue
      exact ⟨(exec_serviceExpiry hdue ti).trans htick, hcall⟩

end Sys2Proof.Machine
end

section
/-! SUPPORT. The class requests: a record written, its RAISED calls' aging timers loaded, and the counts reported (O40). -/

namespace Sys2Proof.Machine

/-! ### The calls of a class (R161, R164) -/

theorem State.countCalls_pos (s : State) (p : Call → Bool) :
    0 < s.countCalls p ↔ ∃ i : SlotId, (s.callAt i).any p = true := by
  rw [State.countCalls_eq, callsWith, List.countP_pos_iff]
  exact exists_congr fun i => and_iff_right (List.mem_finRange i)

/-! ### A class record written (R161 to R163) -/

/-- R161, R163: NEW_CALL is set exactly by an unmasking of a class that holds a RAISED call. -/
theorem State.writeClass_eq (s : State) (k : ClassId) (r : ClassRecord) : s.writeClass k r = { s with
    classes := s.classes.set k.val r k.isLt
    attention := { s.attention with
      newCall := s.attention.newCall || ((s.cls k).masked && !r.masked &&
        decide (∃ i : SlotId, (s.callAt i).any fun a => a.state == .raised && a.cls == k)) } } := by
  have hholds : decide (0 < s.countCalls fun a => a.raisedIn k) =
      decide (∃ i : SlotId, (s.callAt i).any fun a => a.state == .raised && a.cls == k) :=
    decide_eq_decide.mpr (s.countCalls_pos _)
  rw [State.writeClass, hholds]
  cases (s.cls k).masked && !r.masked && decide (∃ i : SlotId, (s.callAt i).any fun a => a.state == .raised && a.cls == k)
  · simp
  · simp [State.notify]

theorem State.cls_writeClass (s : State) (k : ClassId) (r : ClassRecord) : (s.writeClass k r).cls k = r := by
  rw [State.writeClass_eq]
  simp [State.cls]

theorem State.entry_writeClass (s : State) (k : ClassId) (r : ClassRecord) (i : SlotId) :
    (s.writeClass k r).entry i = s.entry i := by
  rw [State.writeClass_eq]
  rfl

/-- R162: apply now rewrites the aging timers of the class's RAISED calls, each in its entry. -/
theorem State.entry_reloadClass (s : State) (k : ClassId) (i : SlotId) : (s.reloadClass k).entry i = { s.entry i with
    call := (s.callAt i).map fun a =>
      if a.state = .raised ∧ a.cls = k then { a with aging := agingLoad (s.cls k) } else a } := by
  simp only [State.reloadClass, State.callAt, State.entry, mapTable_get]
  generalize s.calls[i] = e
  obtain ⟨g, call⟩ := e
  cases call with
  | none => rfl
  | some a => by_cases h : a.state = .raised ∧ a.cls = k <;> simp [Call.raisedIn, h]

/-- The state after an accepted SET_CLASS. -/
def State.takeClass (s : State) (k : ClassId) (r : ClassRecord) (now : Bool) : State :=
  if now then (s.writeClass k r).reloadClass k else s.writeClass k r

/-- R161 to R163: the record, NEW_CALL and, with apply now, the aging timers of the class's RAISED calls are written, and nothing
else. -/
theorem State.exists_takeClass (s : State) (k : ClassId) (r : ClassRecord) (now : Bool) : ∃ v : Vector CallEntry 32,
    s.takeClass k r now = { s with
      calls := v
      classes := s.classes.set k.val r k.isLt
      attention := { s.attention with
        newCall := s.attention.newCall || ((s.cls k).masked && !r.masked &&
          decide (∃ i : SlotId, (s.callAt i).any fun a => a.state == .raised && a.cls == k)) } } ∧
      ∀ i : SlotId, v[i] = { s.entry i with
        call := (s.callAt i).map fun a =>
          if now = true ∧ a.state = .raised ∧ a.cls = k then { a with aging := agingLoad r } else a } := by
  cases now with
  | false => exact ⟨s.calls, s.writeClass_eq k r, fun i => by simp [State.callAt, State.entry]⟩
  | true =>
    refine ⟨((s.writeClass k r).reloadClass k).calls, ?_, fun i => ?_⟩
    · -- apply now writes the table of the calls over the state with the record written
      exact congrArg (fun u : State => { u with calls := ((s.writeClass k r).reloadClass k).calls }) (s.writeClass_eq k r)
    · have hentry := (s.writeClass k r).entry_reloadClass k i
      rw [State.cls_writeClass, State.callAt, State.entry_writeClass] at hentry
      simp only [true_and]
      exact hentry

/-! ### SET_CLASS (R162, R163) -/

/-- The record that SET_CLASS takes, escalate after taken up to 15 (R163). -/
def ClassRecord.taken (masked : Bool) (renotify : Nat) (esc : Byte) (limit : Nat) : ClassRecord :=
  { masked := masked, renotify := renotify, escalateAfter := min 15 esc.toNat, serviceLimit := limit }

section
variable {s : State} (hsave : s.store.save ≠ .saving)
include hsave

theorem setClass_taken (k : ClassId) (masked now : Bool) {renotify limit : Nat} (esc : Byte) (hr : renotify < 65536)
    (hl : limit < 65536) :
    setClass ([w8 k, flag masked] ++ w16 renotify ++ [esc] ++ w16 limit ++ [flag now]) s =
      (s.takeClass k (.taken masked renotify esc limit) now).accept
        (w8 k :: classBytes (.taken masked renotify esc limit) ++
          [w8 (if now then callsWith s fun a => a.state == .raised && a.cls == k else 0)]) := by
  change setClass [w8 k, flag masked, w8 (renotify / 256), w8 renotify, esc, w8 (limit / 256), w8 limit, flag now] s = _
  rw [setClass, unlessSaving_idle hsave, index_w8 k (by decide), yesNo_flag, yesNo_flag, u16_w8 hr, u16_w8 hl]
  dsimp only
  rw [State.countCalls_eq]
  rfl

/-- R162, R191: a class above 7, and a code that is neither yes nor no. -/
theorem setClass_refused {b mask r1 r0 esc l1 l0 now : Byte} (h : 7 < b.toNat ∨ 1 < mask.toNat ∨ 1 < now.toNat) :
    setClass [b, mask, r1, r0, esc, l1, l0, now] s = s.refuse .badValue := by
  have hcode : ∀ c : Byte, 1 < c.toNat → yesNo c = none := fun c hc => List.getElem?_eq_none hc
  rw [setClass, unlessSaving_idle hsave]
  rcases h with h | h | h
  · simp [index_ge (n := 8) h]
  · simp [hcode mask h]
  · simp [hcode now h]

end

/-! ### GET_CLASS (R164) -/

theorem getClass_w8 (k : ClassId) (s : State) : getClass [w8 k] s = s.accept (w8 k :: classBytes (s.cls k) ++
    [w8 (callsWith s fun a => a.cls == k && a.state == .raised), w8 (callsWith s fun a => a.cls == k && a.state == .taken),
      w8 (callsWith s fun a => a.cls == k && a.state == .taken && a.overdue),
      w8 (callsWith s fun a => a.cls == k && a.state == .satisfied),
      w8 (callsWith s fun a => a.cls == k && a.state == .raised && a.aging.isNone)]) := by
  rw [getClass, index_w8 k (by decide)]
  simp only [State.countCalls_eq, Call.raisedIn, Bool.and_comm (_ == CallState.raised)]

/-- Settles O40: a record taken or refused, and a record reported. -/
theorem classRequestsReadAndWriteRecords : Obligations.ClassRequestsReadAndWriteRecords := by
  refine ⟨fun s h k masked now renotify limit esc hs hsave hr hl => ?taken,
    fun s h b mask r1 r0 esc l1 l0 now hs hsave hbad => ?refused, fun s h b hs hb => ?unknown, fun s h k hs => ?report⟩
  case taken =>
    have hset := setClass_taken (s := atHunt s) hsave k masked now esc hr hl
    obtain ⟨v, hv, hcalls⟩ := (atHunt s).exists_takeClass k (.taken masked renotify esc limit) now
    rw [hv] at hset
    refine ⟨{ s with calls := v, classes := _, attention := _ }, (serve_accepted hs (by simp [w16]) hset rfl).trans rfl, rfl,
      fun i => ?_⟩
    have hgeneration := congrArg CallEntry.generation (hcalls i)
    have hcall := congrArg CallEntry.call (hcalls i)
    exact ⟨hgeneration, hcall⟩
  case refused => exact serve_refused hs (by simp) (setClass_refused (s := atHunt s) hsave hbad)
  case unknown =>
    refine serve_refused hs (by simp) (?_ : getClass [b] (atHunt s) = _)
    rw [getClass, index_ge (n := 8) hb]
  case report => exact (serve_accepted hs (by simp) (getClass_w8 k (atHunt s)) rfl).trans rfl

end Sys2Proof.Machine
end

section
/-! SUPPORT. The bay requests: settings, overrides and patterns written, a bay reported, windows opened and closed (O41, O42). -/

namespace Sys2Proof.Machine

/-! ### The checks of the bay requests (R182, R191) -/

section
variable {s : State}

@[simp] theorem withBay_w8 (b : BayId) (k : BayId → Served) : withBay s (w8 b) k = k b := by
  rw [withBay, index_w8 b (by decide)]

theorem withBay_refused {b : Byte} (h : 5 < b.toNat) (k : BayId → Served) : withBay s b k = s.refuse .badValue := by
  rw [withBay, index_ge h]

theorem withBay_refuses {k : BayId → Served} (h : ∀ i, k i = s.refuse .badValue) (b : Byte) :
    withBay s b k = s.refuse .badValue := by
  unfold withBay
  split
  · exact h _
  · rfl

theorem yesNo_none {c : Byte} (h : 1 < c.toNat) : yesNo c = none := List.getElem?_eq_none h

/-! ### SET_BAY (R172, R183) -/

/-- The settings that SET_BAY takes, clamped (R183). -/
def BaySettings.taken (enabled : Bool) (window long : Nat) : BaySettings :=
  { keyEnabled := enabled, windowLength := max 10 (min 36000 window), longPress := max 5 (min 100 long) }

/-- R172: only an enabled key that stays enabled goes on with its press. -/
theorem keyAfterSetting_eq (k : Key) (was now : Bool) :
    keyAfterSetting k was now = if was = true ∧ now = true then k else { state := .idle, hold := 0, longDone := false } := by
  cases was <;> cases now <;> rfl

theorem Bay.withSettings_eq (r : Bay) (set : BaySettings) : r.withSettings set = { r with
    settings := set
    key := if r.settings.keyEnabled = true ∧ set.keyEnabled = true then r.key
      else { state := .idle, hold := 0, longDone := false } } := by
  rw [Bay.withSettings, keyAfterSetting_eq]

theorem setBay_taken (hsave : s.store.save ≠ .saving) (b : BayId) (enabled : Bool) {window long : Nat} (hw : window < 65536)
    (hl : long < 65536) :
    setBay ([w8 b, flag enabled] ++ w16 window ++ w16 long) s =
      (s.putBay b ((s.bay b).withSettings (.taken enabled window long))).accept
        (w8 b :: baySettingsBytes (.taken enabled window long)) := by
  change setBay [w8 b, flag enabled, w8 (window / 256), w8 window, w8 (long / 256), w8 long] s = _
  rw [setBay, unlessSaving_idle hsave, withBay_w8, yesNo_flag, u16_w8 hw, u16_w8 hl]
  rfl

theorem setBay_refused (hsave : s.store.save ≠ .saving) {b c : Byte} (w1 w0 l1 l0 : Byte) (h : 5 < b.toNat ∨ 1 < c.toNat) :
    setBay [b, c, w1, w0, l1, l0] s = s.refuse .badValue := by
  rw [setBay, unlessSaving_idle hsave]
  rcases h with hb | hc
  · rw [withBay_refused hb]
  · exact withBay_refuses (fun i => by rw [yesNo_none hc]) b

/-! ### GET_BAY (R184) -/

theorem getBay_w8 (b : BayId) : getBay [w8 b] s = s.accept (bayReport b (s.bay b) s.patterns) := withBay_w8 b _

theorem getBay_refused {b : Byte} (h : 5 < b.toNat) : getBay [b] s = s.refuse .badValue := withBay_refused h _

/-- The report of a bay, field by field. -/
theorem bayReport_eq (b : BayId) (r : Bay) (patterns : Vector Pattern 5) : bayReport b r patterns =
    [w8 b, flag r.settings.keyEnabled] ++ w16 r.settings.windowLength ++ w16 r.settings.longPress ++
      [flag r.window.isSome] ++ w16 (r.window.getD 0) ++ [w8 r.key.state.code, w8 r.key.hold, flag r.key.longDone] ++
      [match r.forced with | some o => w8 o.display.code | none => 7] ++
      w16 ((r.forced.bind LampOverride.remaining).getD 0) ++ [w8 r.selected.code, w8 r.phase, litCode r.lit] ++
      (List.finRange 5).flatMap fun i => [w8 patterns[i].period, w8 patterns[i].onTime, flag patterns[i].startOn] := by
  have hpatterns := flatMap_toList_eq_finRange patterns patternBytes
  have hnone : w8 displayNone = 7 := rfl
  unfold bayReport
  rw [hpatterns]
  cases r.forced with
  | none => simp [baySettingsBytes, patternBytes, hnone]
  | some o => simp [baySettingsBytes, patternBytes]

/-! ### SET_LAMP (R181) -/

theorem setLamp_display (b : BayId) (d : Display) {ticks : Nat} (ht : ticks < 65536) :
    setLamp ([w8 b, w8 d.code] ++ w16 ticks) s =
      (s.putBay b { s.bay b with forced := some (overrideOf d ticks) }).accept ([w8 b, w8 d.code] ++ w16 (min 6000 ticks)) := by
  have hnamed : named Display.all (w8 d.code) = some d := by cases d <;> rfl
  have hnot : ¬(w8 d.code).toNat = displayNone := by cases d <;> decide
  change setLamp [w8 b, w8 d.code, w8 (ticks / 256), w8 ticks] s = _
  rw [setLamp, withBay_w8, if_neg hnot, hnamed, u16_w8 ht]
  rfl

theorem setLamp_none (b : BayId) (t1 t0 : Byte) :
    setLamp [w8 b, 7, t1, t0] s = (s.putBay b { s.bay b with forced := none }).accept [w8 b, 7, 0, 0] := withBay_w8 b _

theorem setLamp_refused {b d : Byte} (t1 t0 : Byte) (h : 5 < b.toNat ∨ 7 < d.toNat) :
    setLamp [b, d, t1, t0] s = s.refuse .badValue := by
  rw [setLamp]
  rcases h with hb | hd
  · rw [withBay_refused hb]
  · have hnamed : named Display.all d = none := List.getElem?_eq_none hd.le
    have hnot : ¬d.toNat = displayNone := hd.ne'
    exact withBay_refuses (fun i => by rw [if_neg hnot, hnamed]) b

/-! ### SET_PATTERN (R180) -/

theorem setPattern_taken (hsave : s.store.save ≠ .saving) (i : PatternId) (period on : Byte) (start : Bool) :
    setPattern [w8 i, period, on, flag start] s =
      { s with patterns := s.patterns.set i.val (patternFields period.toNat on.toNat start) i.isLt }.accept
        (w8 i :: patternBytes (patternFields period.toNat on.toNat start)) := by
  rw [setPattern, unlessSaving_idle hsave, index_w8 i (by decide), yesNo_flag]

theorem setPattern_refused (hsave : s.store.save ≠ .saving) {b c : Byte} (period on : Byte) (h : 4 < b.toNat ∨ 1 < c.toNat) :
    setPattern [b, period, on, c] s = s.refuse .badValue := by
  rw [setPattern, unlessSaving_idle hsave]
  rcases h with hb | hc
  · rw [index_ge hb]
  · rw [yesNo_none hc]
    cases index 5 b <;> rfl

end

/-- Settles O41: each request at its bay or its pattern, and the refusals of each. -/
theorem bayRequestsReadAndWriteBays : Obligations.BayRequestsReadAndWriteBays := by
  refine ⟨fun s h b hs => ⟨fun enabled window long hsave hw hl => ?set, ?get, fun d ticks ht => ?lamp, fun t1 t0 => ?dark⟩,
    fun s h i period on start hs hsave => ?pattern,
    fun s h b c x1 x2 x3 x4 hs => ⟨fun hb => ⟨?noBay, ?noLamp⟩, fun hc => ?noDisplay, fun hsave => ⟨fun hbad => ?noSetting,
      fun hbad => ?noPattern⟩⟩⟩
  case set =>
    have hset := setBay_taken (s := atHunt s) hsave b enabled hw hl
    rw [Bay.withSettings_eq] at hset
    exact (serve_accepted hs (by simp [w16]) hset rfl).trans rfl
  case get =>
    have hget := getBay_w8 (s := atHunt s) b
    rw [bayReport_eq] at hget
    exact (serve_accepted hs (by simp) hget rfl).trans rfl
  case lamp => exact (serve_accepted hs (by simp [w16]) (setLamp_display (s := atHunt s) b d ht) rfl).trans rfl
  case dark => exact (serve_accepted hs (by simp) (setLamp_none (s := atHunt s) b t1 t0) rfl).trans rfl
  case pattern =>
    exact (serve_accepted hs (by simp) (setPattern_taken (s := atHunt s) hsave i period on start) rfl).trans rfl
  case noBay => exact serve_refused hs (by simp) (getBay_refused hb)
  case noLamp => exact serve_refused hs (by simp) (setLamp_refused x1 x2 (.inl hb))
  case noDisplay => exact serve_refused hs (by simp) (setLamp_refused x1 x2 (.inr hc))
  case noSetting => exact serve_refused hs (by simp) (setBay_refused (s := atHunt s) hsave x1 x2 x3 x4 hbad)
  case noPattern => exact serve_refused hs (by simp) (setPattern_refused (s := atHunt s) hsave x1 x2 hbad)

/-! ### OPEN_WINDOW and CLOSE_WINDOW (R173 to R175) -/

section
variable {s : State}

theorem openWindow_default (b : BayId) :
    openWindow [w8 b] s = s.openRequest b (s.bay b).settings.windowLength := withBay_w8 b _

theorem openWindow_ticks (b : BayId) {ticks : Nat} (ht : ticks < 65536) :
    openWindow (w8 b :: w16 ticks) s = s.openRequest b (max 10 (min 36000 ticks)) := by
  change openWindow [w8 b, w8 (ticks / 256), w8 ticks] s = _
  rw [openWindow, withBay_w8, u16_w8 ht]
  rfl

theorem openWindow_refused {b : Byte} (h : 5 < b.toNat) (t1 t0 : Byte) :
    openWindow [b] s = s.refuse .badValue ∧ openWindow [b, t1, t0] s = s.refuse .badValue :=
  ⟨withBay_refused h _, withBay_refused h _⟩

theorem closeWindow_closed {b : BayId} (h : (s.bay b).window = none) : closeWindow [w8 b] s = s.accept [w8 b, 0, 0] := by
  rw [closeWindow, withBay_w8, h]
  rfl

theorem closeWindow_open {b : BayId} (h : (s.bay b).window ≠ none) :
    closeWindow [w8 b] s = (s.closeBayWindow b).accept [w8 b, 1, w8 (s.newlyCarried b)] := by
  rw [closeWindow, withBay_w8, if_pos (Option.isSome_iff_ne_none.mpr h)]
  rfl

theorem closeWindow_refused {b : Byte} (h : 5 < b.toNat) : closeWindow [b] s = s.refuse .badValue := withBay_refused h _

end

theorem State.newlyCarried_eq (s : State) (b : BayId) : s.newlyCarried b = (List.finRange 48).countP fun n =>
    (s.lane n).binding.bay == b && (s.lane n).state == .moving && !(s.lane n).committed.carryOver := by
  have h : s.lanes.toList = (List.finRange 48).map s.lane := by
    apply List.ext_getElem <;> simp [State.lane]
  rw [State.newlyCarried, h, List.countP_map]
  rfl

theorem Lane.marksOnClose_iff {l : Lane} {b : BayId} : l.marksOnClose b = true ↔ l.binding.bay = b ∧ l.state = .moving := by
  simp [Lane.marksOnClose]

/-- Settles O42: a window opened or reloaded, closed with its marking, or found closed. -/
theorem windowRequestsOpenAndClose : Obligations.WindowRequestsOpenAndClose := by
  refine ⟨fun s h b hs => ⟨?opens, fun ticks ht => ?opensFor, fun hnone => ?closed, fun hopen => ?closes⟩,
    fun s h b t1 t0 hs hb => ?refusals⟩
  case opens => exact (serve_accepted hs (by simp) (openWindow_default (s := atHunt s) b) rfl).trans rfl
  case opensFor => exact (serve_accepted hs (by simp [w16]) (openWindow_ticks (s := atHunt s) b ht) rfl).trans rfl
  case closed => exact (serve_accepted hs (by simp) (closeWindow_closed (s := atHunt s) hnone) rfl).trans rfl
  case closes =>
    have hclose := closeWindow_open (s := atHunt s) hopen
    rw [State.newlyCarried_eq] at hclose
    refine ⟨s.closeBayWindow b, (serve_accepted hs (by simp) hclose rfl).trans rfl, rfl, fun n => ?_⟩
    rw [State.lane_closeBayWindow]
    exact if_congr Lane.marksOnClose_iff rfl rfl
  case refusals =>
    obtain ⟨hopen, hopenFor⟩ := openWindow_refused (s := atHunt s) hb t1 t0
    exact ⟨serve_refused hs (by simp) hopen, serve_refused hs (by simp) hopenFor,
      serve_refused hs (by simp) (closeWindow_refused hb)⟩

end Sys2Proof.Machine
end

section
/-! SUPPORT. A bay's tick: its window, its key and its override through the five steps of R169, and what the rest of the tick leaves
of one bay (O45). -/

namespace Sys2Proof.Machine

/-! ### The window countdown (R173, R174) -/

/-- The ticks remaining after the countdown. -/
def Bay.counted (r : Bay) : Option Nat :=
  match r.window with
  | some (v + 2) => some (v + 1)
  | _ => none

@[simp] theorem Lane.carried_carried (l : Lane) : l.carried.carried = l.carried := rfl

@[simp] theorem Lane.marksOnClose_carried (l : Lane) (b : BayId) : l.carried.marksOnClose b = l.marksOnClose b := rfl

@[simp] theorem State.bay_closeBayWindow (s : State) (b c : BayId) :
    (s.closeBayWindow b).bay c = if c = b then { s.bay b with window := none } else s.bay c := by
  unfold State.closeBayWindow
  generalize mapTable s.lanes _ = v
  exact State.bay_putBay { s with lanes := v } b c _

theorem State.windowDue_iff {s : State} {b : BayId} :
    s.windowDue b = true ↔ (s.bay b).window = some 0 ∨ (s.bay b).window = some 1 := by
  unfold State.windowDue
  cases (s.bay b).window with
  | none => simp
  | some v => simp [Nat.le_one_iff_eq_zero_or_eq_one]

theorem State.bay_windowCountdown (s : State) (b : BayId) :
    (s.windowCountdown b).bay b = { s.bay b with window := (s.bay b).counted } := by
  unfold State.windowCountdown
  split
  · next v hv =>
    match v, hv with
    | 0, hv => simp [Bay.counted, hv]
    | 1, hv => simp [Bay.counted, hv]
    | v + 2, hv => simp [Bay.counted, hv, State.openBayWindow]
  · next hv =>
    have hcounted : (s.bay b).counted = (s.bay b).window := by simp [Bay.counted, hv]
    rw [hcounted]

theorem State.windowDue_open {s : State} {b : BayId} {v : Nat} (h : (s.bay b).window = some v) :
    s.windowDue b = decide (v ≤ 1) := by
  rw [State.windowDue, h]

theorem State.windowDue_closed {s : State} {b : BayId} (h : (s.bay b).window = none) : s.windowDue b = false := by
  rw [State.windowDue, h]

theorem State.lane_windowCountdown (s : State) (b : BayId) (n : LaneId) : (s.windowCountdown b).lane n =
    if s.windowDue b = true ∧ (s.lane n).marksOnClose b = true then (s.lane n).carried else s.lane n := by
  unfold State.windowCountdown
  split
  · next v hv =>
    rw [State.windowDue_open hv]
    by_cases hlow : v ≤ 1
    · simp only [hlow, if_true, decide_true, true_and, State.lane_closeBayWindow]
    · simp only [hlow, if_false, decide_false, Bool.false_eq_true, false_and, State.openBayWindow, State.lane_putBay]
  · next hv =>
    rw [State.windowDue_closed hv]
    simp only [Bool.false_eq_true, false_and, if_false]

/-! ### The key sample (R170 to R172) -/

section
variable {length : Nat} {k : Key}

theorem keySample_idle (h : k.state = .idle) (down : Bool) :
    keySample length k down = (if down then { k with state := .arming } else k, .none) := by
  cases down <;> simp [keySample, h]

theorem keySample_arming_up (h : k.state = .arming) : keySample length k false = ({ k with state := .idle }, .none) := by
  simp [keySample, h]

theorem keySample_press (h : k.state = .arming) :
    keySample length k true = ({ state := .down, hold := 0, longDone := false }, .press) := by
  simp [keySample, h]

theorem keySample_down_up (h : k.state = .down) : keySample length k false = ({ k with state := .lettingGo }, .none) := by
  simp [keySample, h]

theorem keySample_release (h : k.state = .lettingGo) :
    keySample length k false = (Key.idle, if k.longDone then .letGo else .short) := by
  simp [keySample, h]

theorem keySample_hold (h : k.state = .down ∨ k.state = .lettingGo) : keySample length k true = holdSample length k := by
  rcases h with h | h <;> simp [keySample, h]

theorem holdSample_long (hdone : k.longDone = false) (hroom : k.hold < 100) (hlong : length ≤ k.hold + 1) :
    holdSample length k = ({ state := .down, hold := k.hold + 1, longDone := true }, .long) := by
  simp [holdSample, hdone, hroom, hlong]

theorem holdSample_counts (hmax : k.hold ≤ 100) (h : ¬(k.longDone = false ∧ k.hold < 100 ∧ length ≤ k.hold + 1)) :
    holdSample length k = ({ k with state := .down, hold := min 100 (k.hold + 1) }, .none) := by
  unfold holdSample
  split
  · next hroom =>
    have hmin : min 100 (k.hold + 1) = k.hold + 1 := by omega
    rw [if_neg (by simpa [hroom] using h), hmin]
  · next hroom =>
    have hmin : min 100 (k.hold + 1) = k.hold := by omega
    rw [hmin]

theorem holdSample_event : (holdSample length k).2 =
    if k.longDone = false ∧ k.hold < 100 ∧ length ≤ k.hold + 1 then .long else .none := by
  split
  · next h =>
    obtain ⟨hdone, hroom, hlong⟩ := h
    rw [holdSample_long hdone hroom hlong]
  · next h =>
    unfold holdSample
    split
    · next hroom => rw [if_neg (by simpa [hroom] using h)]
    · rfl

theorem holdSample_not_released : (holdSample length k).2 ≠ .short ∧ (holdSample length k).2 ≠ .letGo := by
  rw [holdSample_event]
  split <;> simp

/-- R171: the sample that is a long press. -/
theorem keySample_long_iff {down : Bool} : (keySample length k down).2 = .long ↔
    down = true ∧ (k.state = .down ∨ k.state = .lettingGo) ∧ k.longDone = false ∧ k.hold < 100 ∧ length ≤ k.hold + 1 := by
  cases hk : k.state with
  | idle => simp [keySample_idle hk]
  | arming => cases down <;> simp [keySample_arming_up hk, keySample_press hk]
  | down => cases down <;> simp [keySample_down_up hk, keySample_hold (.inl hk), holdSample_event]
  | lettingGo =>
    cases down with
    | false => cases hdone : k.longDone <;> simp [keySample_release hk, hdone]
    | true => simp [keySample_hold (.inr hk), holdSample_event]

/-- R172: the sample that releases the key, after a short press or a long one. -/
theorem keySample_release_iff {down : Bool} :
    (keySample length k down).2 = .short ∨ (keySample length k down).2 = .letGo ↔ down = false ∧ k.state = .lettingGo := by
  cases hk : k.state with
  | idle => simp [keySample_idle hk]
  | arming => cases down <;> simp [keySample_arming_up hk, keySample_press hk]
  | down => cases down <;> simp [keySample_down_up hk, keySample_hold (.inl hk), holdSample_not_released]
  | lettingGo =>
    cases down with
    | false => cases hdone : k.longDone <;> simp [keySample_release hk, hdone]
    | true => simp [keySample_hold (.inr hk), holdSample_not_released]

end

/-! ### The key step (R171, R172) -/

/-- The key after a sample and what the sample makes of the press; a disabled key is not sampled (R172). -/
def Bay.sample (r : Bay) (down : Bool) : Key × KeyEvent :=
  if r.settings.keyEnabled then keySample r.settings.longPress r.key down else (r.key, .none)

/-- The window, from `w`, after what a sample makes of the press: a long press closes it, a short one opens it (R171, R172). -/
def Bay.windowAfter (r : Bay) (w : Option Nat) : KeyEvent → Option Nat
  | .none => w
  | .press => w
  | .long => none
  | .short => some r.settings.windowLength
  | .letGo => w

theorem Bay.sample_disabled {r : Bay} (h : r.settings.keyEnabled = false) (down : Bool) : r.sample down = (r.key, .none) := by
  simp [Bay.sample, h]

theorem Bay.sample_enabled {r : Bay} (h : r.settings.keyEnabled = true) (down : Bool) :
    r.sample down = keySample r.settings.longPress r.key down := if_pos h

theorem Bay.sample_long_iff {r : Bay} {down : Bool} : (r.sample down).2 = .long ↔
    r.settings.keyEnabled = true ∧ down = true ∧ (r.key.state = .down ∨ r.key.state = .lettingGo) ∧
      r.key.longDone = false ∧ r.key.hold < 100 ∧ r.settings.longPress ≤ r.key.hold + 1 := by
  cases h : r.settings.keyEnabled
  · simp [Bay.sample_disabled h]
  · simp [Bay.sample_enabled h, keySample_long_iff]

theorem Bay.sample_release_iff {r : Bay} {down : Bool} : (r.sample down).2 = .short ∨ (r.sample down).2 = .letGo ↔
    r.settings.keyEnabled = true ∧ down = false ∧ r.key.state = .lettingGo := by
  cases h : r.settings.keyEnabled
  · simp [Bay.sample_disabled h]
  · simp [Bay.sample_enabled h, keySample_release_iff]

theorem Bay.windowAfter_kept {r : Bay} {w : Option Nat} {e : KeyEvent} (hlong : e ≠ .long) (hshort : e ≠ .short) :
    r.windowAfter w e = w := by
  cases e with
  | long => exact absurd rfl hlong
  | short => exact absurd rfl hshort
  | _ => rfl

/-- What a key step makes of its bay and of the lanes. -/
theorem State.keyStep_spec (s : State) (b : BayId) (down : Bool) :
    (s.keyStep b down).bay b = { s.bay b with
      key := ((s.bay b).sample down).1
      window := (s.bay b).windowAfter (s.bay b).window ((s.bay b).sample down).2 } ∧
    ∀ n, (s.keyStep b down).lane n =
      if (((s.bay b).sample down).2 = .long ∧ (s.bay b).window ≠ none) ∧ (s.lane n).marksOnClose b = true then
        (s.lane n).carried
      else s.lane n := by
  unfold State.keyStep
  dsimp only
  cases h : (s.bay b).settings.keyEnabled with
  | false => simp [Bay.sample_disabled h, Bay.windowAfter]
  | true =>
    rw [Bay.sample_enabled h]
    generalize keySample (s.bay b).settings.longPress (s.bay b).key down = p
    obtain ⟨k, e⟩ := p
    cases e with
    | long =>
      cases hw : (s.bay b).window with
      | none => simp [Bay.windowAfter]
      | some v =>
        refine ⟨by simp [Bay.windowAfter], fun n => ?_⟩
        by_cases hmark : (s.lane n).marksOnClose b = true <;> simp [State.lane_closeBayWindow, hmark]
    | _ => simp [Bay.windowAfter, State.openBayWindow]

/-! ### The override countdown (R181) -/

/-- An override after its countdown; one without a duration stands. -/
def LampOverride.ticked (o : LampOverride) : Option LampOverride :=
  match o.remaining with
  | some v => if v ≤ 1 then none else some { o with remaining := some (v - 1) }
  | none => some o

theorem State.bay_overrideCountdown (s : State) (b : BayId) :
    (s.overrideCountdown b).bay b = { s.bay b with forced := (s.bay b).forced.bind LampOverride.ticked } := by
  have hstands (h : (s.bay b).forced.bind LampOverride.ticked = (s.bay b).forced) :
      s.bay b = { s.bay b with forced := (s.bay b).forced.bind LampOverride.ticked } := by rw [h]
  unfold State.overrideCountdown
  split
  · next o ho =>
    split
    · next v hv => simp [LampOverride.ticked, ho, hv]
    · next hv => exact hstands (by simp [LampOverride.ticked, ho, hv])
  · next ho => exact hstands (by simp [ho])

/-! ### The five steps (R169) -/

/-- The part after the first two steps of a bay's tick, the countdown and the key sample. -/
def State.keyed (s : State) (keys : BitVec 6) (b : BayId) : State :=
  (s.windowCountdown b).keyStep b (keys.getLsbD b)

section
variable (s : State) (keys : BitVec 6) (b : BayId)

theorem State.bay_keyed : (s.keyed keys b).bay b = { s.bay b with
    key := ((s.bay b).sample (keys.getLsbD b)).1
    window := (s.bay b).windowAfter (s.bay b).counted ((s.bay b).sample (keys.getLsbD b)).2 } := by
  rw [State.keyed, (State.keyStep_spec _ b _).1, State.bay_windowCountdown]
  rfl

/-- R174: the two closings of a bay's tick mark the same lanes. -/
theorem State.lane_keyed (n : LaneId) : (s.keyed keys b).lane n =
    if (s.windowDue b = true ∨ ((s.bay b).sample (keys.getLsbD b)).2 = .long ∧ (s.bay b).counted ≠ none) ∧
        (s.lane n).marksOnClose b = true then (s.lane n).carried
    else s.lane n := by
  have hsample : ((s.windowCountdown b).bay b).sample (keys.getLsbD b) = (s.bay b).sample (keys.getLsbD b) := by
    rw [State.bay_windowCountdown]
    rfl
  have hwindow : ((s.windowCountdown b).bay b).window = (s.bay b).counted := by rw [State.bay_windowCountdown]
  rw [State.keyed, (State.keyStep_spec _ b _).2, hsample, hwindow, State.lane_windowCountdown]
  cases hmark : (s.lane n).marksOnClose b
  · simp [hmark]
  · cases hdue : s.windowDue b <;> simp [hmark]

theorem State.bay_bayTick : (s.bayTick keys b).bay b =
    let v := s.keyed keys b
    let d := v.selectDisplay b
    let phase := v.nextPhase (v.bay b) d
    { v.bay b with
      selected := d, phase := phase, lit := v.lampFor d phase
      forced := (v.bay b).forced.bind LampOverride.ticked } := by
  have hsteps : s.bayTick keys b = ((s.keyed keys b).lampStep b).overrideCountdown b := rfl
  rw [hsteps, State.bay_overrideCountdown, State.lampStep, State.bay_putBay_self]

theorem State.lane_bayTick (n : LaneId) : (s.bayTick keys b).lane n = (s.keyed keys b).lane n := by
  have hsteps : s.bayTick keys b = ((s.keyed keys b).lampStep b).overrideCountdown b := rfl
  rw [hsteps]
  unfold State.overrideCountdown
  split
  · split <;> rfl
  · rfl

end

/-! ### What the rest of a tick leaves of one bay (R153, R169) -/

theorem LanesAndBaysOnly.capturesTick (s : State) : LanesAndBaysOnly s s.capturesTick := .foldl .captureTick _ s

theorem LanesAndBaysOnly.baysTick (s : State) (keys : BitVec 6) : LanesAndBaysOnly s (s.baysTick keys) :=
  .foldl (.bayTick keys) _ s

theorem LanesAndBaysOnly.callAt {s t : State} (h : LanesAndBaysOnly s t) (i : SlotId) : t.callAt i = s.callAt i := by
  unfold LanesAndBaysOnly at h
  rw [h]
  rfl

theorem CarryOverOnly.state {s t : State} (h : CarryOverOnly s t) (n : LaneId) : (t.lane n).state = (s.lane n).state :=
  (congrArg Lane.state (h.lane n) :)

theorem CarryOverOnly.bayOf {s t : State} (h : CarryOverOnly s t) (n : LaneId) :
    (t.lane n).binding.bay = (s.lane n).binding.bay :=
  (congrArg (fun l : Lane => l.binding.bay) (h.lane n) :)

/-- Bay `b`, the carry-over of its lanes, and the settings that its lamp is selected by are the same in `t` as in `s`. -/
structure LeavesBay (b : BayId) (s t : State) : Prop where
  bay       : t.bay b = s.bay b
  bayOf     : ∀ n, (t.lane n).binding.bay = (s.lane n).binding.bay
  carryOver : ∀ n, (s.lane n).binding.bay = b → (t.lane n).committed.carryOver = (s.lane n).committed.carryOver
  classes   : t.classes = s.classes
  device    : t.device = s.device
  patterns  : t.patterns = s.patterns

section
variable {b : BayId} {s t u : State}

theorem LeavesBay.refl (b : BayId) (s : State) : LeavesBay b s s := ⟨rfl, fun _ => rfl, fun _ _ => rfl, rfl, rfl, rfl⟩

theorem LeavesBay.trans (h : LeavesBay b s t) (k : LeavesBay b t u) : LeavesBay b s u where
  bay := k.bay.trans h.bay
  bayOf n := (k.bayOf n).trans (h.bayOf n)
  carryOver n hn := (k.carryOver n ((h.bayOf n).trans hn)).trans (h.carryOver n hn)
  classes := k.classes.trans h.classes
  device := k.device.trans h.device
  patterns := k.patterns.trans h.patterns

/-- An operation that leaves the call controller and the settings alone, by what it makes of the bay and of the lanes. -/
theorem LeavesBay.of_lanesAndBays (h : LanesAndBaysOnly s t) (hbay : t.bay b = s.bay b)
    (hof : ∀ n, (t.lane n).binding.bay = (s.lane n).binding.bay)
    (hcarry : ∀ n, (s.lane n).binding.bay = b → (t.lane n).committed.carryOver = (s.lane n).committed.carryOver) :
    LeavesBay b s t where
  bay := hbay
  bayOf := hof
  carryOver := hcarry
  classes := by rw [h]
  device := by rw [h]
  patterns := by rw [h]

theorem LeavesBay.callsTick (b : BayId) (s : State) : LeavesBay b s s.callsTick :=
  ⟨rfl, fun _ => rfl, fun _ _ => rfl, rfl, rfl, rfl⟩

theorem LeavesBay.captureTick (b : BayId) (s : State) (i : CaptureId) : LeavesBay b s (s.captureTick i) := by
  refine .of_lanesAndBays (.captureTick s i) ?_ (fun n => ?_) fun n _ => ?_
  · unfold State.captureTick
    split
    · split <;> rfl
    · rfl
  all_goals
    rw [State.lane_captureTick]
    split <;> rfl

theorem LeavesBay.capturesTick (b : BayId) (s : State) : LeavesBay b s s.capturesTick :=
  List.foldlRecOn (motive := LeavesBay b s) _ _ (.refl b s) fun _ h i _ => h.trans (.captureTick b _ i)

theorem State.bay_bayTick_ne {b c : BayId} (hbc : b ≠ c) (s : State) (keys : BitVec 6) : (s.bayTick keys c).bay b = s.bay b := by
  have hcountdown : ∀ u : State, (u.windowCountdown c).bay b = u.bay b := fun u => by
    unfold State.windowCountdown
    split
    · split <;> simp [State.openBayWindow, hbc]
    · rfl
  have hkey : ∀ (u : State) (down : Bool), (u.keyStep c down).bay b = u.bay b := fun u down => by
    unfold State.keyStep
    dsimp only
    split
    · split
      case h_4 => split <;> simp [hbc]
      all_goals simp [State.openBayWindow, hbc]
    · rfl
  have hoverride : ∀ u : State, (u.overrideCountdown c).bay b = u.bay b := fun u => by
    unfold State.overrideCountdown
    split
    · split <;> simp [hbc]
    · rfl
  rw [State.bayTick, hoverride, State.lampStep, State.bay_putBay_ne _ _ _ _ hbc, hkey, hcountdown]

/-- R174: the closing of another bay's window marks no lane of this bay. -/
theorem LeavesBay.bayTick {c : BayId} (hbc : b ≠ c) (s : State) (keys : BitVec 6) : LeavesBay b s (s.bayTick keys c) := by
  refine .of_lanesAndBays (.bayTick keys s c) (State.bay_bayTick_ne hbc s keys) (CarryOverOnly.bayTick keys s c).bayOf
    fun n hn => ?_
  have hmark : ¬(s.lane n).marksOnClose c = true := fun h => hbc (hn.symm.trans (Lane.marksOnClose_iff.mp h).1)
  rw [State.lane_bayTick, State.lane_keyed, if_neg fun h => hmark h.2]

theorem LeavesBay.foldl_bayTick {l : List BayId} (hl : b ∉ l) (s : State) (keys : BitVec 6) :
    LeavesBay b s (l.foldl (State.bayTick keys) s) :=
  List.foldlRecOn (motive := LeavesBay b s) _ _ (.refl b s) fun _ h _ hc =>
    h.trans (.bayTick (ne_of_mem_of_not_mem hc hl).symm _ keys)

end

/-- The tick of the bays as the tick of bay `b` from a state `u`, which differs from `s` by the ticks of other bays. -/
theorem State.exists_bayTick (s : State) (keys : BitVec 6) (b : BayId) : ∃ u, LeavesBay b s u ∧
    LeavesBay b (u.bayTick keys b) (s.baysTick keys) ∧ CarryOverOnly s u ∧ LanesAndBaysOnly s u := by
  obtain ⟨before, after, hsplit⟩ := List.append_of_mem (List.mem_finRange b)
  have hnodup := List.nodup_finRange 6
  rw [hsplit, List.nodup_middle, List.nodup_cons, List.mem_append, not_or] at hnodup
  obtain ⟨⟨hbefore, hafter⟩, -⟩ := hnodup
  refine ⟨before.foldl (State.bayTick keys) s, .foldl_bayTick hbefore s keys, ?_,
    List.foldlRecOn _ _ (.refl s) fun _ h c _ => h.trans (.bayTick keys _ c), .foldl (.bayTick keys) before s⟩
  rw [State.baysTick, hsplit, List.foldl_append, List.foldl_cons]
  exact .foldl_bayTick hafter _ keys

/-- Bay `b` ticks on `u` in the tick of `s`: what comes before it and after it leaves the bay, and `u` holds the lanes' states and the
calls as the operand orders the blocks (log entry 5). -/
structure BayTicksOn (s : State) (ti : TickInput) (b : BayId) (u : State) : Prop where
  before : LeavesBay b s u
  after  : LeavesBay b (u.bayTick ti.keysDown b) (s.ticked ti)
  state  : ∀ n, (u.lane n).state = if ti.baysBeforeCaptures then (s.lane n).state else ((s.ticked ti).lane n).state
  calls  : ∀ i, u.callAt i = (if ti.baysBeforeCalls then s else s.ticked ti).callAt i

/-- R153, R169: whatever the order of the blocks at a tick, each bay ticks once. -/
theorem State.exists_bayTicksOn (s : State) (ti : TickInput) (b : BayId) : ∃ u, BayTicksOn s ti b u := by
  have clock : LeavesBay b s { s with tick := s.tick + 1 } := ⟨rfl, fun _ => rfl, fun _ _ => rfl, rfl, rfl, rfl⟩
  have bays : ∀ u : State, CarryOverOnly u (u.baysTick ti.keysDown) := fun u => .baysTick u _
  have baysOnly : ∀ u : State, LanesAndBaysOnly u (u.baysTick ti.keysDown) := fun u => .baysTick u _
  suffices h : ∃ w, LeavesBay b s w ∧ LeavesBay b (w.baysTick ti.keysDown) (s.ticked ti) ∧
      (∀ n, (w.lane n).state = if ti.baysBeforeCaptures then (s.lane n).state else ((s.ticked ti).lane n).state) ∧
      ∀ i, w.callAt i = (if ti.baysBeforeCalls then s else s.ticked ti).callAt i by
    obtain ⟨w, before, after, state, calls⟩ := h
    obtain ⟨u, hbefore, hafter, hcarry, honly⟩ := w.exists_bayTick ti.keysDown b
    exact ⟨u, before.trans hbefore, hafter.trans after, fun n => (hcarry.state n).trans (state n),
      fun i => (honly.callAt i).trans (calls i)⟩
  unfold State.ticked
  dsimp only
  cases ti.baysBeforeCaptures <;> cases ti.baysBeforeCalls <;> simp only [if_true, if_false, Bool.false_eq_true]
  · exact ⟨_, (clock.trans (.capturesTick b _)).trans (.callsTick b _), .refl b _, fun n => ((bays _).state n).symm,
      fun i => ((baysOnly _).callAt i).symm⟩
  · exact ⟨_, clock.trans (.capturesTick b _), .callsTick b _, fun n => (((bays _).trans (.callsTick _)).state n).symm,
      fun i => (LanesAndBaysOnly.capturesTick { s with tick := s.tick + 1 }).callAt i⟩
  · exact ⟨_, clock.trans (.callsTick b _), .capturesTick b _, fun _ => rfl,
      fun i => (((baysOnly _).trans (.capturesTick _)).callAt i).symm⟩
  · exact ⟨_, clock, (LeavesBay.capturesTick b _).trans (.callsTick b _), fun _ => rfl, fun _ => rfl⟩

/-! ### What a tick makes of a bay's window, key and override -/

theorem State.bay_ticked (s : State) (ti : TickInput) (b : BayId) : (s.ticked ti).bay b = { (s.ticked ti).bay b with
    settings := (s.bay b).settings
    window := (s.bay b).windowAfter (s.bay b).counted ((s.bay b).sample (ti.keysDown.getLsbD b)).2
    key := ((s.bay b).sample (ti.keysDown.getLsbD b)).1
    forced := (s.bay b).forced.bind LampOverride.ticked } := by
  obtain ⟨u, hu⟩ := s.exists_bayTicksOn ti b
  rw [hu.after.bay, State.bay_bayTick]
  dsimp only
  rw [State.bay_keyed, hu.before.bay]

/-- R174: carry-over after the tick, on the lanes of a bay. -/
theorem State.carryOver_ticked (s : State) (ti : TickInput) {b : BayId} {n : LaneId} (hn : (s.lane n).binding.bay = b) :
    ((s.ticked ti).lane n).committed.carryOver = true ↔ (s.lane n).committed.carryOver = true ∨
      (s.windowDue b = true ∨ ((s.bay b).sample (ti.keysDown.getLsbD b)).2 = .long ∧ (s.bay b).counted ≠ none) ∧
        (if ti.baysBeforeCaptures then (s.lane n).state else ((s.ticked ti).lane n).state) = .moving := by
  obtain ⟨u, hu⟩ := s.exists_bayTicksOn ti b
  have hof : (u.lane n).binding.bay = b := (hu.before.bayOf n).trans hn
  have hdue : u.windowDue b = s.windowDue b := by rw [State.windowDue, hu.before.bay, State.windowDue]
  have hmark : (u.lane n).marksOnClose b = true ↔ (u.lane n).state = .moving := Lane.marksOnClose_iff.trans (and_iff_right hof)
  rw [hu.after.carryOver n (((CarryOverOnly.bayTick _ u b).bayOf n).trans hof), State.lane_bayTick, State.lane_keyed,
    ← hu.before.carryOver n hn, ← hu.state, ← hmark, ← hdue, ← hu.before.bay]
  split
  · next h => exact iff_of_true rfl (.inr h)
  · next h => exact (or_iff_left h).symm

/-! ### WINDOW_EXPIRY, OVERRIDE_EXPIRY, KEY_PRESS, LONG_PRESS and KEY_RELEASE -/

section
variable {s : State} {b : BayId}

theorem State.keyEvent_eq (s : State) (b : BayId) (ti : TickInput) :
    s.keyEvent b ti = ((s.bay b).sample (ti.keysDown.getLsbD b)).2 := by
  unfold State.keyEvent Bay.sample
  split <;> rfl

theorem exec_windowExpiry (h : s.windowDue b = true) (ti : TickInput) : exec (.windowExpiry b ti) s = exec (.tick ti) s :=
  congrArg (fun due => (.next (tickIf due ti s) : Out)) h

theorem exec_overrideExpiry (h : s.overrideDue b = true) (ti : TickInput) : exec (.overrideExpiry b ti) s = exec (.tick ti) s :=
  congrArg (fun due => (.next (tickIf due ti s) : Out)) h

theorem exec_keyPress {ti : TickInput} (h : ((s.bay b).sample (ti.keysDown.getLsbD b)).2 = .press) :
    exec (.keyPress b ti) s = exec (.tick ti) s :=
  congrArg (fun due => (.next (tickIf due ti s) : Out)) (beq_iff_eq.mpr ((s.keyEvent_eq b ti).trans h))

theorem exec_longPress {ti : TickInput} (h : ((s.bay b).sample (ti.keysDown.getLsbD b)).2 = .long) :
    exec (.longPress b ti) s = exec (.tick ti) s :=
  congrArg (fun due => (.next (tickIf due ti s) : Out)) (beq_iff_eq.mpr ((s.keyEvent_eq b ti).trans h))

theorem exec_keyRelease {ti : TickInput} (h : ((s.bay b).sample (ti.keysDown.getLsbD b)).2 = .short ∨
    ((s.bay b).sample (ti.keysDown.getLsbD b)).2 = .letGo) : exec (.keyRelease b ti) s = exec (.tick ti) s := by
  rw [← s.keyEvent_eq b ti, ← beq_iff_eq, ← beq_iff_eq (b := KeyEvent.letGo), ← Bool.or_eq_true] at h
  exact congrArg (fun due => (.next (tickIf due ti s) : Out)) h

end

/-- Settles O45: the tick of one bay, read off its sample and its countdown. -/
theorem ticksRunWindowsAndKeys : Obligations.TicksRunWindowsAndKeys := by
  intro s ti hs
  have htick := exec_tick hs ti
  refine ⟨s.ticked ti, htick, fun b => ?_⟩
  intro r k down counted long released
  have hlong : (r.sample down).2 = .long ↔ long := Bay.sample_long_iff
  have hreleased : (r.sample down).2 = .short ∨ (r.sample down).2 = .letGo ↔ released := Bay.sample_release_iff
  have hbay := s.bay_ticked ti b
  have hsettings := congrArg Bay.settings hbay
  have hkey : ((s.ticked ti).bay b).key = (r.sample down).1 := congrArg Bay.key hbay
  have hwindow : ((s.ticked ti).bay b).window = r.windowAfter counted (r.sample down).2 := congrArg Bay.window hbay
  refine ⟨hsettings, fun hone => ?expires, fun hoff => ?disabled, fun hon => ⟨fun hst => ?idle, fun hst hup => ?armingUp,
    fun hst hdown => ?press, fun hst hup => ?downUp⟩, fun hon hdown hst hmax hnot => ?held, fun h => ?longPress,
    fun h => ?release, fun hnotLong hnotReleased => ?window, fun n hn => ?carryOver⟩
  case expires => exact (exec_windowExpiry (State.windowDue_iff.mpr (.inr hone)) ti).trans htick
  case disabled => rw [hkey, Bay.sample_disabled hoff]
  case idle => rw [hkey, Bay.sample_enabled hon, keySample_idle hst]
  case armingUp => rw [hkey, Bay.sample_enabled hon, hup, keySample_arming_up hst]
  case press =>
    have hpress := (Bay.sample_enabled hon down).trans (hdown ▸ keySample_press hst)
    exact ⟨(exec_keyPress (congrArg Prod.snd hpress)).trans htick, hkey.trans (congrArg Prod.fst hpress)⟩
  case downUp => rw [hkey, Bay.sample_enabled hon, hup, keySample_down_up hst]
  case held =>
    have hcounts : ¬(k.longDone = false ∧ k.hold < 100 ∧ r.settings.longPress ≤ k.hold + 1) := fun h =>
      hnot ⟨hon, hdown, hst, h⟩
    rw [hkey, Bay.sample_enabled hon, hdown, keySample_hold hst, holdSample_counts hmax hcounts]
  case longPress =>
    have hevent := hlong.mpr h
    obtain ⟨hon, hdown, hst, hdone, hroom, hlength⟩ := h
    refine ⟨(exec_longPress hevent).trans htick, ?_, ?_⟩
    · rw [hkey, Bay.sample_enabled hon, hdown, keySample_hold hst, holdSample_long hdone hroom hlength]
    · rw [hwindow, hevent]
      rfl
  case release =>
    have hevent := hreleased.mpr h
    obtain ⟨hon, hup, hst⟩ := h
    have hsample : r.sample down = (Key.idle, if k.longDone then .letGo else .short) := by
      rw [Bay.sample_enabled hon, hup, keySample_release hst]
    refine ⟨(exec_keyRelease hevent).trans htick, hkey.trans (congrArg Prod.fst hsample), ?_⟩
    rw [hwindow, hsample]
    cases k.longDone <;> rfl
  case window =>
    exact hwindow.trans (Bay.windowAfter_kept (mt hlong.mp hnotLong) fun h => hnotReleased (hreleased.mp (.inl h)))
  case carryOver =>
    refine (s.carryOver_ticked ti hn).trans (or_congr_right (and_congr_left fun _ => ?_))
    rw [State.windowDue_iff, or_assoc]
    exact or_congr_right (or_congr_right (and_congr_left fun _ => hlong))

end Sys2Proof.Machine
end

section
/-! SUPPORT. The lamp's display, phase and output, and the calls that its selection reads at a tick (O46). -/

namespace Sys2Proof.Machine

/-! ### The calls of a bay's lanes (R177) -/

theorem State.bayHasCall_iff {s : State} {b : BayId} {p : Call → Bool} :
    s.bayHasCall b p = true ↔ BayCall s b fun c => p c = true := by
  have hlist : s.calls.toList = (List.finRange 32).map s.entry := by
    apply List.ext_getElem <;> simp [State.entry]
  have hentry : ∀ e : CallEntry, (match e.call with
      | some c => (s.lane c.lane).binding.bay == b && p c
      | none => false) = true ↔ ∃ c, e.call = some c ∧ (s.lane c.lane).binding.bay = b ∧ p c = true := fun e => by
    cases e.call <;> simp
  rw [State.bayHasCall, hlist]
  simp only [List.any_map, List.any_eq_true, List.mem_finRange, true_and]
  exact exists_congr fun i => hentry (s.entry i)

/-! ### The first line of R177 that applies -/

/-- A test on calls and the claims' word for it, on a part `v` that holds the calls of `q`. -/
theorem State.bayHasCall_iff_of_calls {v q : State} {b : BayId} (hcalls : ∀ i, v.callAt i = q.callAt i)
    (hof : ∀ n, (v.lane n).binding.bay = (q.lane n).binding.bay) {p : Call → Bool} {P : Call → Prop}
    (hp : ∀ c, p c = true ↔ P c) : v.bayHasCall b p = true ↔ BayCall q b P := by
  rw [State.bayHasCall_iff]
  refine exists_congr fun i => exists_congr fun c => ?_
  rw [hcalls, hof]
  exact and_congr_right fun _ => and_congr_right fun _ => hp c

theorem State.selectDisplay_forced {v : State} {b : BayId} {o : LampOverride} (h : (v.bay b).forced = some o) :
    v.selectDisplay b = o.display := by
  rw [State.selectDisplay, h]

theorem State.selectDisplay_free {v : State} {b : BayId} (h : (v.bay b).forced = none) : v.selectDisplay b =
    if v.bayHasCall b fun c => c.cause == .fault then .fault
    else if v.bayHasCall b v.urgentCall then .urgent
    else if (v.bay b).window.isSome then .window
    else if v.bayHasCall b v.offerable then .call
    else if v.bayHasCall b fun c => c.state != .raised then .taken
    else .dark := by
  rw [State.selectDisplay, h]

theorem State.offerable_iff {v : State} {c : Call} :
    v.offerable c = true ↔ c.state = .raised ∧ (v.cls c.cls).masked = false := by
  simp [State.offerable]

theorem State.urgentCall_iff {v : State} {c : Call} : v.urgentCall c = true ↔
    (c.state = .raised ∧ (v.cls c.cls).masked = false ∧ c.cls ≤ v.device.urgentLimit) ∨
      (c.state = .taken ∧ c.overdue = true) := by
  simp [State.urgentCall, and_assoc]

theorem CallState.ne_raised_iff {x : CallState} : (x != .raised) = true ↔ x = .taken ∨ x = .satisfied := by
  cases x <;> decide

/-! ### The phase and the lamp output (R179) -/

theorem Display.pattern_of_list (p : PatternId) : [Display.fault, .urgent, .window, .call, .taken][p].pattern = some p := by
  fin_cases p <;> rfl

theorem State.nextPhase_unpatterned {v : State} {d : Display} (h : d.pattern = none) (r : Bay) : v.nextPhase r d = 0 := by
  simp [State.nextPhase, h]

theorem State.nextPhase_patterned {v : State} {d : Display} {p : PatternId} (h : d.pattern = some p) (r : Bay) :
    v.nextPhase r d = if d = r.selected then (r.phase + 1) % v.patterns[p].period else 0 := by
  rw [State.nextPhase, h]

theorem State.lampFor_patterned {v : State} {d : Display} {p : PatternId} (h : d.pattern = some p) (phase : Nat) :
    v.lampFor d phase = v.patterns[p].litAt phase := by
  rw [State.lampFor, h]

theorem Pattern.litAt_iff (p : Pattern) (phase : Nat) : p.litAt phase = true ↔
    if p.startOn then phase < p.onTime else p.period - p.onTime ≤ phase := by
  unfold Pattern.litAt
  split <;> simp

/-! ### The lamp step of a tick (R169, R177, R179) -/

/-- The lamp of bay `b` is selected on `v` in the tick of `s`: `v` holds the bay as its countdown and its key left it, the calls as the
operand orders the blocks (log entry 5), and the tables of `s`. -/
structure LampSelectedOn (s : State) (ti : TickInput) (b : BayId) (v : State) : Prop where
  forced   : (v.bay b).forced = (s.bay b).forced
  window   : (v.bay b).window = ((s.ticked ti).bay b).window
  display  : ((s.ticked ti).bay b).selected = v.selectDisplay b
  phase    : ((s.ticked ti).bay b).phase = v.nextPhase (s.bay b) (v.selectDisplay b)
  lit      : ((s.ticked ti).bay b).lit = v.lampFor (v.selectDisplay b) ((s.ticked ti).bay b).phase
  calls    : ∀ i, v.callAt i = (if ti.baysBeforeCalls then s else s.ticked ti).callAt i
  bayOf    : ∀ n, (v.lane n).binding.bay = ((if ti.baysBeforeCalls then s else s.ticked ti).lane n).binding.bay
  classes  : v.classes = s.classes
  device   : v.device = s.device
  patterns : v.patterns = s.patterns

theorem State.exists_lampSelectedOn (s : State) (ti : TickInput) (b : BayId) : ∃ v, LampSelectedOn s ti b v := by
  obtain ⟨u, hu⟩ := s.exists_bayTicksOn ti b
  have honly : LanesAndBaysOnly u (u.keyed ti.keysDown b) := (LanesAndBaysOnly.windowCountdown u b).trans (.keyStep _ b _)
  have hcarry : CarryOverOnly u (u.keyed ti.keysDown b) := (CarryOverOnly.windowCountdown u b).trans (.keyStep _ b _)
  have hbay := hu.after.bay.trans (u.bay_bayTick ti.keysDown b)
  have hkeyed := u.bay_keyed ti.keysDown b
  have hof : ∀ n, (u.lane n).binding.bay = ((if ti.baysBeforeCalls then s else s.ticked ti).lane n).binding.bay := fun n => by
    split
    · exact hu.before.bayOf n
    · exact ((hu.after.bayOf n).trans ((CarryOverOnly.bayTick _ u b).bayOf n)).symm
  exact ⟨u.keyed ti.keysDown b,
    { forced := by rw [hkeyed, hu.before.bay]
      window := (congrArg Bay.window hbay).symm
      display := congrArg Bay.selected hbay
      phase := by
        rw [hbay]
        dsimp only
        rw [hkeyed, hu.before.bay]
        rfl
      lit := by rw [hbay]
      calls := fun i => (honly.callAt i).trans (hu.calls i)
      bayOf := fun n => (hcarry.bayOf n).trans (hof n)
      classes := (congrArg State.classes honly).trans hu.before.classes
      device := (congrArg State.device honly).trans hu.before.device
      patterns := (congrArg State.patterns honly).trans hu.before.patterns }⟩

/-- Settles O46: the display by the first line that applies, the phase and the output by its pattern, and the override's countdown. -/
theorem ticksSelectTheLamps : Obligations.TicksSelectTheLamps := by
  intro s ti hs
  have htick := exec_tick hs ti
  refine ⟨s.ticked ti, htick, fun b => ?_⟩
  intro q r d isFault isUrgent isOpen isWaiting isTaken
  obtain ⟨v, hv⟩ := s.exists_lampSelectedOn ti b
  have hcls : ∀ k, v.cls k = s.cls k := fun k => by rw [State.cls, hv.classes, State.cls]
  have hasCall {p : Call → Bool} {P : Call → Prop} (hp : ∀ c, p c = true ↔ P c) : v.bayHasCall b p = true ↔ BayCall q b P :=
    State.bayHasCall_iff_of_calls hv.calls hv.bayOf hp
  have hfault : (v.bayHasCall b fun c => c.cause == .fault) = true ↔ isFault := hasCall fun c => beq_iff_eq
  have hurgent : v.bayHasCall b v.urgentCall = true ↔ isUrgent := hasCall fun c => by
    rw [State.urgentCall_iff, hcls, hv.device]
  have hopen : (v.bay b).window.isSome = true ↔ isOpen := by rw [hv.window, Option.isSome_iff_ne_none]
  have hwaiting : v.bayHasCall b v.offerable = true ↔ isWaiting := hasCall fun c => by rw [State.offerable_iff, hcls]
  have htaken : (v.bayHasCall b fun c => c.state != .raised) = true ↔ isTaken := hasCall fun c => CallState.ne_raised_iff
  have hd : d = v.selectDisplay b := hv.display
  have hphase : ((s.ticked ti).bay b).phase = v.nextPhase r d := hd ▸ hv.phase
  have hlit : ((s.ticked ti).bay b).lit = v.lampFor d ((s.ticked ti).bay b).phase := hd ▸ hv.lit
  have hforced : ((s.ticked ti).bay b).forced = r.forced.bind LampOverride.ticked := congrArg Bay.forced (s.bay_ticked ti b)
  refine ⟨fun o ho => ?override, fun hnone => ?free, fun hdark => ?dark, fun hsteady => ?steady, fun p hp => ?patterned,
    fun hnone => ?stays, fun o ho => ⟨fun hstands => ?stands, fun w hruns => ?runs, fun hone => ?clears⟩⟩
  case override => exact hd.trans (State.selectDisplay_forced (hv.forced.trans ho))
  case free =>
    have hfirst := hd.trans (State.selectDisplay_free (hv.forced.trans hnone))
    refine ⟨fun hf => ?_, fun hf hu => ?_, fun hf hu ho => ?_, fun hf hu ho hw => ?_, fun hf hu ho hw ht => ?_,
      fun hf hu ho hw ht => ?_⟩
    · rw [hfirst, if_pos (hfault.mpr hf)]
    · rw [hfirst, if_neg (mt hfault.mp hf), if_pos (hurgent.mpr hu)]
    · rw [hfirst, if_neg (mt hfault.mp hf), if_neg (mt hurgent.mp hu), if_pos (hopen.mpr ho)]
    · rw [hfirst, if_neg (mt hfault.mp hf), if_neg (mt hurgent.mp hu), if_neg (mt hopen.mp ho), if_pos (hwaiting.mpr hw)]
    · rw [hfirst, if_neg (mt hfault.mp hf), if_neg (mt hurgent.mp hu), if_neg (mt hopen.mp ho), if_neg (mt hwaiting.mp hw),
        if_pos (htaken.mpr ht)]
    · rw [hfirst, if_neg (mt hfault.mp hf), if_neg (mt hurgent.mp hu), if_neg (mt hopen.mp ho), if_neg (mt hwaiting.mp hw),
        if_neg (mt htaken.mp ht)]
  case dark =>
    rw [hphase, hlit, hdark]
    exact ⟨State.nextPhase_unpatterned rfl r, rfl⟩
  case steady =>
    rw [hphase, hlit, hsteady]
    exact ⟨State.nextPhase_unpatterned rfl r, rfl⟩
  case patterned =>
    have hpattern : d.pattern = some p := hp ▸ Display.pattern_of_list p
    rw [hlit, State.lampFor_patterned hpattern, Pattern.litAt_iff, hv.patterns]
    rw [hphase, State.nextPhase_patterned hpattern, hv.patterns]
    exact ⟨rfl, Iff.rfl⟩
  case stays => rw [hforced, hnone]; rfl
  case stands => rw [hforced, ho, Option.bind_some, LampOverride.ticked, hstands]
  case runs => rw [hforced, ho, Option.bind_some, LampOverride.ticked, hruns]; rfl
  case clears =>
    have hdue : s.overrideDue b = true := by
      have ho' : (s.bay b).forced = some o := ho
      simp [State.overrideDue, ho', hone]
    refine ⟨?_, (exec_overrideExpiry hdue ti).trans htick⟩
    rw [hforced, ho, Option.bind_some, LampOverride.ticked, hone]
    rfl

end Sys2Proof.Machine
end

section
/-! SUPPORT. A request by the kind of its frame: the meaning that a kind names, and what every request makes of the link, the
waiting commands and its status (O2, O6, O7, O8, O9). -/

namespace Sys2Proof.Machine

/-! ### Requests and their kinds (R189, R191) -/

/-- A command with the parts of a request is a request of unknown kind, or the request that a kind of the request table names. -/
theorem requestParts_cases {i : Instr} {h : Header} {k : Byte} {p : List Byte} (hi : requestParts i = some (h, k, p)) :
    i = .unknownKindRequest h k p ∨ k.toNat ∈ requestKinds ∧ i = requestOf h k p := by
  cases i <;> cases hi
  case unknownKindRequest => exact .inl rfl
  all_goals exact .inr ⟨by decide, rfl⟩

theorem lt_of_mem_requestKinds {k : Nat} (hk : k ∈ requestKinds) : k < 128 :=
  (by decide : ∀ n ∈ requestKinds, n < 128) k hk

/-- A request of the table is well formed exactly when its payload fits a frame. -/
theorem wellFormed_requestOf {k : Byte} (hk : k.toNat ∈ requestKinds) (h : Header) (p : List Byte) :
    wellFormed (requestOf h k p) = payloadFits p := by
  unfold requestOf
  split
  case h_36 => simp_all [requestKinds]
  all_goals rfl

/-- A well-formed request is the one that its kind names, its kind marks a request, and its payload fits a frame. -/
theorem framing (i : Instr) : Laws.Framing.Statement i := by
  intro h k p hw hi
  rcases requestParts_cases hi with rfl | ⟨hk, rfl⟩
  · exact Laws.Framing.unknownKindRequest h k p h k p hw rfl
  · exact Laws.Framing.of_request hi rfl (lt_of_mem_requestKinds hk) (wellFormed_requestOf hk h p) h k p hw hi

theorem unknownKind_iff {k : Byte} : unknownKind k = true ↔ k.toNat < 128 ∧ k.toNat ∉ requestKinds := by
  simp [unknownKind]

/-! ### The meaning that a kind names -/

/-- The meaning of the request of a kind; a kind outside the request table is refused. -/
def requestAct (kind : Nat) (broadcast : Bool) (p : List Byte) : State → Served :=
  match kind with
  | 1 => identify p
  | 2 => getStatus p
  | 3 => restartRequest broadcast p
  | 4 => setDevice broadcast p
  | 5 => saveSettings p
  | 16 => laneSummary p
  | 17 => getLane p
  | 18 => bindLane p
  | 19 => unbindLane p
  | 20 => setLaneWeighing p
  | 21 => suspendLane p
  | 22 => resumeLane p
  | 32 => beginZero p
  | 33 => beginSpan p
  | 34 => cancelCapture p
  | 35 => setCalibration p
  | 48 => readMoves p
  | 49 => removeMoves p
  | 50 => clearJournal p
  | 56 => setWatch p
  | 57 => getWatch p
  | 58 => clearWatchHits p
  | 64 => nextCall p
  | 65 => listCalls p
  | 66 => takeCall p
  | 67 => closeCall p
  | 68 => clearCallsRequest p
  | 72 => setClass p
  | 73 => getClass p
  | 80 => setBay p
  | 81 => getBay p
  | 82 => openWindow p
  | 83 => closeWindow p
  | 84 => setLamp p
  | 85 => setPattern p
  | _ => fun s => s.refuse .unknownKind

/-- A request of the table is served with the meaning that its kind names. -/
theorem exec_requestOf {k : Byte} (hk : k.toNat ∈ requestKinds) (h : Header) (p : List Byte) (s : State) :
    exec (requestOf h k p) s = .next (serve k.toNat (decide (k.toNat ∈ reportKinds)) h p
      (requestAct k.toNat (s.addressed h == .broadcast) p) s) := by
  unfold requestOf
  split
  case h_36 => simp_all [requestKinds]
  all_goals
    next e =>
    rw [e]
    rfl

/-- A request of unknown kind is served with its refusal. -/
theorem exec_unknownKindRequest {k : Byte} (hk : unknownKind k = true) (h : Header) (p : List Byte) (s : State) :
    exec (.unknownKindRequest h k p) s = .next (serve k.toNat false h p (fun t => t.refuse .unknownKind) s) :=
  if_pos hk

/-! ### What a request can answer -/

/-- The link and the waiting commands stand. -/
structure LinkStands (s t : State) : Prop where
  link    : t.link = s.link
  pending : t.pending = s.pending

theorem LinkStands.trans {s t u : State} (h : LinkStands s t) (k : LinkStands t u) : LinkStands s u :=
  ⟨k.link.trans h.link, k.pending.trans h.pending⟩

theorem LinkStands.of_calls {s t : State} (h : CallsOnly s t) : LinkStands s t := ⟨h.link, by rw [h]⟩

theorem LinkStands.of_conversion {s t : State} (h : ConversionFrame s t) : LinkStands s t := ⟨by rw [h], by rw [h]⟩

/-- A request that leaves the link and the waiting commands alone and is not answered BUSY. -/
structure ServesApart (s : State) (r : Served) : Prop where
  stands : LinkStands s r.state
  status : r.status ≠ .busy

section
variable {s t : State} {r : Served}

theorem ServesApart.refuse {st : Status} (h : st ≠ .busy) : ServesApart s (s.refuse st) := ⟨⟨rfl, rfl⟩, h⟩

theorem ServesApart.accept {body : List Byte} (h : LinkStands s t) : ServesApart s (t.accept body) :=
  ⟨h, by simp [State.accept]⟩

/-- An accepted request that writes tables or settings only, or nothing. -/
theorem ServesApart.writes {body : List Byte} (hl : t.link = s.link := by rfl) (hp : t.pending = s.pending := by rfl) :
    ServesApart s (t.accept body) :=
  .accept ⟨hl, hp⟩

theorem ServesApart.withLane {b : Byte} {k : LaneId → Served} (h : ∀ n, ServesApart s (k n)) :
    ServesApart s (Machine.withLane s b k) := by
  unfold Machine.withLane
  split
  · exact h _
  · exact .refuse (by decide)

theorem ServesApart.withBay {b : Byte} {k : BayId → Served} (h : ∀ i, ServesApart s (k i)) :
    ServesApart s (Machine.withBay s b k) := by
  unfold Machine.withBay
  split
  · exact h _
  · exact .refuse (by decide)

theorem ServesApart.withCall {slot g : Byte} {k : SlotId → Call → Served} (h : ∀ i c, ServesApart s (k i c)) :
    ServesApart s (Machine.withCall s slot g k) := by
  unfold Machine.withCall
  split
  · split
    · split
      · exact h _ _
      · exact .refuse (by decide)
    · exact .refuse (by decide)
  · exact .refuse (by decide)

theorem ServesApart.unlessOff {n : LaneId} (h : ServesApart s r) : ServesApart s (Machine.unlessOff s n r) := by
  unfold Machine.unlessOff
  split
  · exact .refuse (by decide)
  · exact h

theorem ServesApart.unlessCapture {n : LaneId} (h : ServesApart s r) : ServesApart s (Machine.unlessCapture s n r) := by
  unfold Machine.unlessCapture
  split
  · exact .refuse (by decide)
  · exact h

theorem ServesApart.require {ok : Bool} {st : Status} (hst : st ≠ .busy) (h : ServesApart s r) :
    ServesApart s (Machine.require s ok st r) := by
  unfold Machine.require
  split
  · exact h
  · exact .refuse hst

/-- A request marked BUSY: the save is its first check (R196), and what follows it keeps to the property given. -/
def Guarded (s : State) (Q : Served → Prop) (r : Served) : Prop :=
  ∃ k, r = unlessSaving s k ∧ Q k

theorem unlessSaving_saving (h : s.store.save = .saving) (k : Served) : unlessSaving s k = s.refuse .busy := by
  simp [unlessSaving, State.saving, h]

end

/-! ### The effects of the requests leave the link alone -/

section
variable (s : State)

theorem LinkStands.bind (n : LaneId) (f : BindFields) : LinkStands s (s.bind n f).state := by
  unfold State.bind
  dsimp only [State.accept]
  split
  · unfold State.bindFresh State.wake
    split <;> exact ⟨rfl, rfl⟩
  · unfold State.rebind
    have calls := (State.touched_handLevel (s.putLane n ((s.lane n).rebound f)) n (s.lane n).committed.level
      ((s.lane n).rebound f).committed.level).trans (State.touched_offerChangedClass _ n (s.lane n).binding)
    exact LinkStands.trans (t := s.putLane n _) ⟨rfl, rfl⟩ (.of_calls calls)

theorem LinkStands.unbind (n : LaneId) : LinkStands s (s.unbind n) := by
  unfold State.unbind
  exact (of_calls (s.touched_unbindCalls n)).trans ⟨State.putLane_link _ n _, State.putLane_pending _ n _⟩

theorem LinkStands.suspend (n : LaneId) : LinkStands s (s.suspend n) := by
  unfold State.suspend
  exact LinkStands.trans (t := s.putLane n _) ⟨rfl, rfl⟩ (.of_calls (State.touched_suspendCalls _ n))

theorem LinkStands.resume (n : LaneId) : LinkStands s (s.resume n) := by
  unfold State.resume
  exact LinkStands.trans (t := s.putLane n _) ⟨rfl, rfl⟩ (.of_calls (State.touched_sweep _ _))

theorem LinkStands.tryCapture (n : LaneId) (kind : CaptureKind) (mass : Nat) :
    LinkStands s (s.tryCapture n kind mass).state := by
  unfold State.tryCapture
  split <;> exact ⟨rfl, rfl⟩

theorem LinkStands.calibrate (n : LaneId) (zero : Int) (gain : Nat) : LinkStands s (s.calibrate n zero gain) := by
  unfold State.calibrate
  dsimp only
  split
  · exact LinkStands.trans (t := s.putLane n _) ⟨rfl, rfl⟩ (.of_calls (State.touched_clearSource _ n _))
  · exact ⟨rfl, rfl⟩

theorem LinkStands.removeHead (k : Nat) : LinkStands s (s.removeHead k) :=
  ⟨by rw [s.journal_removeHead k], by rw [s.journal_removeHead k]⟩

theorem ServesApart.close (i : SlotId) (c : Call) : ServesApart s (s.close i c) := by
  unfold State.close
  split
  · exact .accept (.of_calls ((s.touched_putCall i _).trans (State.touched_noteNewCall _ _)))
  · exact .accept (.of_calls ((s.touched_freeEntry i).trans (State.touched_place _)))

theorem LinkStands.writeClass (k : ClassId) (r : ClassRecord) : LinkStands s (s.writeClass k r) := by
  unfold State.writeClass
  dsimp only
  split <;> exact ⟨rfl, rfl⟩

theorem LinkStands.reloadClass (k : ClassId) : LinkStands s (s.reloadClass k) := by
  unfold State.reloadClass
  generalize mapTable s.calls _ = c
  exact ⟨rfl, rfl⟩

theorem LinkStands.closeBayWindow (b : BayId) : LinkStands s (s.closeBayWindow b) := by
  unfold State.closeBayWindow
  generalize mapTable s.lanes _ = l
  exact ⟨rfl, rfl⟩

theorem LinkStands.takeDevice (d : DeviceSettings) : LinkStands s (s.takeDevice false d) := by
  obtain ⟨v, hv, -⟩ := s.exists_takeDevice d
  rw [hv]
  exact ⟨rfl, rfl⟩

/-- R190: taken from a broadcast, the settings bring the new link rate into force at once. -/
theorem State.takeDevice_broadcast (d : DeviceSettings) : s.takeDevice true d =
    { s.takeDevice false d with link := { (s.takeDevice false d).link with lineRate := d.linkRate } } := rfl

end

/-! ### Each request with a payload of its size -/

section
variable {p : List Byte} (s : State)

theorem apart_identify (hp : p.length = 0) : ServesApart s (identify p s) :=
  match p, hp with
  | [], _ => .writes

theorem apart_getStatus (hp : p.length = 0) : ServesApart s (getStatus p s) :=
  match p, hp with
  | [], _ => .writes

theorem apart_laneSummary (hp : p.length = 0) : ServesApart s (laneSummary p s) :=
  match p, hp with
  | [], _ => .writes

theorem apart_getLane (hp : p.length = 1) : ServesApart s (getLane p s) :=
  match p, hp with
  | [_], _ => .withLane fun _ => .writes

theorem apart_cancelCapture (hp : p.length = 1) : ServesApart s (cancelCapture p s) := by
  match p, hp with
  | [_], _ =>
    refine .withLane fun n => .unlessOff ?_
    split
    · split
      · exact .writes
      · exact .refuse (by decide)
    · exact .refuse (by decide)

theorem apart_readMoves (hp : p.length = 1) : ServesApart s (readMoves p s) :=
  match p, hp with
  | [_], _ => .writes

theorem apart_removeMoves (hp : p.length = 1) : ServesApart s (removeMoves p s) :=
  match p, hp with
  | [_], _ => .accept (.removeHead s _)

theorem apart_clearJournal (hp : p.length = 0) : ServesApart s (clearJournal p s) :=
  match p, hp with
  | [], _ => .writes

theorem apart_getWatch (hp : p.length = 1) : ServesApart s (getWatch p s) := by
  match p, hp with
  | [_], _ =>
    unfold getWatch
    dsimp only
    split
    · exact .writes
    · exact .refuse (by decide)

theorem apart_clearWatchHits (hp : p.length = 0) : ServesApart s (clearWatchHits p s) :=
  match p, hp with
  | [], _ => .writes

theorem apart_nextCall (hp : p.length = 0) : ServesApart s (nextCall p s) :=
  match p, hp with
  | [], _ => .writes

theorem apart_listCalls (hp : p.length = 1) : ServesApart s (listCalls p s) := by
  match p, hp with
  | [_], _ =>
    unfold listCalls
    dsimp only
    split
    · exact .writes
    · exact .refuse (by decide)

theorem apart_takeCall (hp : p.length = 2) : ServesApart s (takeCall p s) :=
  match p, hp with
  | [_, _], _ => .withCall fun i _ => .require (by decide) .writes

theorem apart_closeCall (hp : p.length = 2) : ServesApart s (closeCall p s) :=
  match p, hp with
  | [_, _], _ => .withCall fun i c => .require (by decide) (.close s i c)

theorem apart_clearCalls (hp : p.length = 0) : ServesApart s (clearCallsRequest p s) :=
  match p, hp with
  | [], _ => .accept (.of_calls s.touched_clearCalls)

theorem apart_getClass (hp : p.length = 1) : ServesApart s (getClass p s) := by
  match p, hp with
  | [_], _ =>
    unfold getClass
    dsimp only
    split
    · exact .writes
    · exact .refuse (by decide)

theorem apart_getBay (hp : p.length = 1) : ServesApart s (getBay p s) :=
  match p, hp with
  | [_], _ => .withBay fun _ => .writes

theorem apart_openWindow (hp : p.length = 1 ∨ p.length = 3) : ServesApart s (openWindow p s) :=
  match p, hp with
  | [_], _ => .withBay fun _ => .writes
  | [_, _, _], _ => .withBay fun _ => .writes

theorem apart_closeWindow (hp : p.length = 1) : ServesApart s (closeWindow p s) := by
  match p, hp with
  | [_], _ =>
    refine .withBay fun i => ?_
    split
    · exact .accept (.closeBayWindow s i)
    · exact .writes

theorem apart_setLamp (hp : p.length = 4) : ServesApart s (setLamp p s) := by
  match p, hp with
  | [_, _, _, _], _ =>
    refine .withBay fun i => ?_
    split
    · exact .writes
    · split
      · exact .writes
      · exact .refuse (by decide)

end

section
variable {p : List Byte} (s : State)

/-! ### The requests marked BUSY, with a payload of their size -/

theorem guarded_saveSettings (hp : p.length = 0) : Guarded s (ServesApart s) (saveSettings p s) :=
  match p, hp with
  | [], _ => ⟨_, rfl, .writes⟩

theorem guarded_bindLane (hp : p.length = 16) : Guarded s (ServesApart s) (bindLane p s) := by
  match p, hp with
  | [_, _, _, _, _, _, _, _, _, _, _, _, _, _, _, _], _ =>
    refine ⟨_, rfl, .withLane fun n => .unlessCapture ?_⟩
    split
    · exact .accept (.bind s n _)
    · exact .refuse (by decide)

theorem guarded_unbindLane (hp : p.length = 1) : Guarded s (ServesApart s) (unbindLane p s) :=
  match p, hp with
  | [_], _ => ⟨_, rfl, .withLane fun n => .unlessOff (.unlessCapture (.require (by decide) (.accept (.unbind s n))))⟩

theorem guarded_setLaneWeighing (hp : p.length = 14) : Guarded s (ServesApart s) (setLaneWeighing p s) :=
  match p, hp with
  | [_, _, _, _, _, _, _, _, _, _, _, _, _, _], _ => ⟨_, rfl, .withLane fun _ => .unlessOff (.unlessCapture .writes)⟩

theorem guarded_suspendLane (hp : p.length = 1) : Guarded s (ServesApart s) (suspendLane p s) :=
  match p, hp with
  | [_], _ => ⟨_, rfl, .withLane fun n => .unlessOff (.unlessCapture (.require (by decide) (.accept (.suspend s n))))⟩

theorem guarded_resumeLane (hp : p.length = 1) : Guarded s (ServesApart s) (resumeLane p s) :=
  match p, hp with
  | [_], _ => ⟨_, rfl, .withLane fun n => .unlessOff (.unlessCapture (.require (by decide) (.accept (.resume s n))))⟩

theorem guarded_setCalibration (hp : p.length = 9) : Guarded s (ServesApart s) (setCalibration p s) :=
  match p, hp with
  | [_, _, _, _, _, _, _, _, _], _ =>
    ⟨_, rfl, .withLane fun n => .unlessOff (.unlessCapture (.require (by decide) (.accept (.calibrate s n _ _))))⟩

theorem guarded_setWatch (hp : p.length = 19) : Guarded s (ServesApart s) (setWatch p s) := by
  match p, hp with
  | [_, _, _, _, _, _, _, _, _, _, _, _, _, _, _, _, _, _, _], _ =>
    refine ⟨_, rfl, ?_⟩
    split
    · exact .writes
    · exact .refuse (by decide)

theorem guarded_setClass (hp : p.length = 8) : Guarded s (ServesApart s) (setClass p s) := by
  match p, hp with
  | [_, _, _, _, _, _, _, _], _ =>
    refine ⟨_, rfl, ?_⟩
    split
    · refine .accept ?_
      split
      · exact (LinkStands.writeClass s _ _).trans (.reloadClass _ _)
      · exact .writeClass s _ _
    · exact .refuse (by decide)

theorem guarded_setBay (hp : p.length = 6) : Guarded s (ServesApart s) (setBay p s) := by
  match p, hp with
  | [_, _, _, _, _, _], _ =>
    refine ⟨_, rfl, .withBay fun i => ?_⟩
    split
    · exact .writes
    · exact .refuse (by decide)

theorem guarded_setPattern (hp : p.length = 4) : Guarded s (ServesApart s) (setPattern p s) := by
  match p, hp with
  | [_, _, _, _], _ =>
    refine ⟨_, rfl, ?_⟩
    split
    · exact .writes
    · exact .refuse (by decide)

/-- SET_DEVICE and RESTART write the link when broadcast, but not the waiting commands. -/
theorem guarded_setDevice (b : Bool) (hp : p.length = 8) :
    Guarded s (fun r => r.state.pending = s.pending) (setDevice b p s) := by
  match p, hp with
  | [_, _, _, _, _, _, _, _], _ =>
    refine ⟨_, rfl, ?_⟩
    split
    · next d _ =>
      cases b
      · exact (LinkStands.takeDevice s d).pending
      · exact (congrArg State.pending (s.takeDevice_broadcast d)).trans (LinkStands.takeDevice s d).pending
    · rfl

theorem guarded_restart (b : Bool) (hp : p.length = 0) :
    Guarded s (fun r => r.state.pending = s.pending) (restartRequest b p s) := by
  match p, hp with
  | [], _ =>
    refine ⟨_, rfl, ?_⟩
    cases b <;> rfl

/-! ### BEGIN_ZERO and BEGIN_SPAN, which want a slot -/

theorem linkStands_beginZero (hp : p.length = 1) : LinkStands s (beginZero p s).state :=
  have same : LinkStands s s := ⟨rfl, rfl⟩
  match p, hp with
  | [_], _ =>
    checked_withLane same fun n => checked_unlessOff same (checked_unlessCapture same (checked_require same fun _ =>
      .tryCapture s n _ _))

theorem linkStands_beginSpan (hp : p.length = 5) : LinkStands s (beginSpan p s).state :=
  have same : LinkStands s s := ⟨rfl, rfl⟩
  match p, hp with
  | [_, _, _, _, _], _ =>
    checked_withLane same fun n => checked_unlessOff same (checked_unlessCapture same (checked_require same fun _ =>
      checked_require same fun _ => checked_require same fun _ => .tryCapture s n _ _))

end

/-! ### The request table (R189 to R191, R196) -/

/-- R189, R191: every meaning takes the sizes of the request table and refuses the others. -/
theorem requestAct_badLength {kind : Nat} {p : List Byte} (hk : kind ∈ requestKinds) (hp : p.length ∉ payloadSizes kind)
    (b : Bool) (s : State) : requestAct kind b p s = s.refuse .badLength := by
  unfold requestAct
  split
  case h_36 => simp_all [requestKinds]
  case h_32 =>
    unfold openWindow
    split
    · exact absurd (by simp [payloadSizes]) hp
    · exact absurd (by simp [payloadSizes]) hp
    · rfl
  all_goals
    simp only [identify, getStatus, restartRequest, setDevice, saveSettings, laneSummary, getLane, bindLane, unbindLane,
      setLaneWeighing, suspendLane, resumeLane, beginZero, beginSpan, cancelCapture, setCalibration, readMoves, removeMoves,
      clearJournal, setWatch, getWatch, clearWatchHits, nextCall, listCalls, takeCall, closeCall, clearCallsRequest, setClass,
      getClass, setBay, getBay, closeWindow, setLamp, setPattern]
    split
    · exact absurd (by simp [payloadSizes]) hp
    · rfl

/-- What a request of the kind can make of the state, and when it is answered BUSY. -/
structure Answers (kind : Nat) (p : List Byte) (s : State) (r : Served) : Prop where
  pending : r.state.pending = s.pending
  link    : kind ∉ [3, 4] → r.state.link = s.link
  marked  : kind ∈ busyKinds → p.length ∈ payloadSizes kind → s.store.save = .saving → r = s.refuse .busy
  free    : kind ∉ busyKinds → kind ∉ [32, 33] → r.status ≠ .busy

section
variable {kind : Nat} {p : List Byte} {s : State} {r : Served}

theorem Answers.of_apart (h : ServesApart s r) (hk : kind ∉ busyKinds := by decide) : Answers kind p s r :=
  ⟨h.stands.pending, fun _ => h.stands.link, fun hb => absurd hb hk, fun _ _ => h.status⟩

theorem Answers.of_slot (h : LinkStands s r.state) (hk : kind ∉ busyKinds := by decide) (hs : kind ∈ [32, 33] := by decide) :
    Answers kind p s r :=
  ⟨h.pending, fun _ => h.link, fun hb => absurd hb hk, fun _ hn => absurd hs hn⟩

theorem Answers.of_guarded {Q : Served → Prop} (h : Guarded s Q r) (hQ : ∀ k, Q k → k.state.pending = s.pending)
    (hl : ∀ k, Q k → kind ∉ [3, 4] → k.state.link = s.link) (hk : kind ∈ busyKinds) : Answers kind p s r := by
  obtain ⟨k, rfl, hq⟩ := h
  exact ⟨checked_unlessSaving (P := fun t => t.pending = s.pending) rfl (hQ k hq),
    fun hn => checked_unlessSaving (P := fun t => t.link = s.link) rfl (hl k hq hn),
    fun _ _ hs => unlessSaving_saving hs k, fun hn => absurd hk hn⟩

theorem Answers.of_guardedApart (h : Guarded s (ServesApart s) r) (hk : kind ∈ busyKinds := by decide) : Answers kind p s r :=
  .of_guarded h (fun _ hq => hq.stands.pending) (fun _ hq _ => hq.stands.link) hk

/-- SET_DEVICE and RESTART. -/
theorem Answers.of_guardedLink (h : Guarded s (fun k => k.state.pending = s.pending) r) (hk : kind ∈ busyKinds := by decide)
    (hl : kind ∈ [3, 4] := by decide) : Answers kind p s r :=
  .of_guarded h (fun _ hq => hq) (fun _ _ hn => absurd hl hn) hk

end

/-- Every request of the table, by its kind. -/
theorem answers_requestAct {kind : Nat} (hk : kind ∈ requestKinds) (b : Bool) (p : List Byte) (s : State) :
    Answers kind p s (requestAct kind b p s) := by
  by_cases hp : p.length ∈ payloadSizes kind
  case neg =>
    rw [requestAct_badLength hk hp]
    exact ⟨rfl, fun _ => rfl, fun _ h => absurd h hp, fun _ _ => by simp [State.refuse]⟩
  have one : ∀ {n}, p.length ∈ [n] → p.length = n := List.mem_singleton.mp
  unfold requestAct
  split
  · exact .of_apart (apart_identify s (one hp))
  · exact .of_apart (apart_getStatus s (one hp))
  · exact .of_guardedLink (guarded_restart s b (one hp))
  · exact .of_guardedLink (guarded_setDevice s b (one hp))
  · exact .of_guardedApart (guarded_saveSettings s (one hp))
  · exact .of_apart (apart_laneSummary s (one hp))
  · exact .of_apart (apart_getLane s (one hp))
  · exact .of_guardedApart (guarded_bindLane s (one hp))
  · exact .of_guardedApart (guarded_unbindLane s (one hp))
  · exact .of_guardedApart (guarded_setLaneWeighing s (one hp))
  · exact .of_guardedApart (guarded_suspendLane s (one hp))
  · exact .of_guardedApart (guarded_resumeLane s (one hp))
  · exact .of_slot (linkStands_beginZero s (one hp))
  · exact .of_slot (linkStands_beginSpan s (one hp))
  · exact .of_apart (apart_cancelCapture s (one hp))
  · exact .of_guardedApart (guarded_setCalibration s (one hp))
  · exact .of_apart (apart_readMoves s (one hp))
  · exact .of_apart (apart_removeMoves s (one hp))
  · exact .of_apart (apart_clearJournal s (one hp))
  · exact .of_guardedApart (guarded_setWatch s (one hp))
  · exact .of_apart (apart_getWatch s (one hp))
  · exact .of_apart (apart_clearWatchHits s (one hp))
  · exact .of_apart (apart_nextCall s (one hp))
  · exact .of_apart (apart_listCalls s (one hp))
  · exact .of_apart (apart_takeCall s (one hp))
  · exact .of_apart (apart_closeCall s (one hp))
  · exact .of_apart (apart_clearCalls s (one hp))
  · exact .of_guardedApart (guarded_setClass s (one hp))
  · exact .of_apart (apart_getClass s (one hp))
  · exact .of_guardedApart (guarded_setBay s (one hp))
  · exact .of_apart (apart_getBay s (one hp))
  · exact .of_apart (apart_openWindow s (by simpa [payloadSizes] using hp))
  · exact .of_apart (apart_closeWindow s (one hp))
  · exact .of_apart (apart_setLamp s (one hp))
  · exact .of_guardedApart (guarded_setPattern s (one hp))
  · simp_all [requestKinds]

end Sys2Proof.Machine
end

section
/-! SUPPORT. Requests heard, unheard and refused, and broadcasts (O1, O6, O7, O8, O9). -/

namespace Sys2Proof.Machine

/-! ### Requests at the link interface (R186 to R191) -/

section
variable {s : State} {h : Header} {k : Byte} {p : List Byte}

/-- A payload of a right size fits a frame. -/
theorem le_of_mem_payloadSizes {kind n : Nat} (hk : kind ∈ requestKinds) (h : n ∈ payloadSizes kind) : n ≤ 240 :=
  (by decide : ∀ k ∈ requestKinds, ∀ n ∈ payloadSizes k, n ≤ 240) kind hk n h

/-- A heard request of the table acts by its kind's meaning and is answered. -/
theorem exec_heard (hs : Hears s h) (hk : k.toNat ∈ requestKinds) (hp : p.length ≤ 240) :
    exec (requestOf h k p) s = .next ((requestAct k.toNat false p (atHunt s)).reply h k.toNat) := by
  obtain ⟨-, -, h0, hmine⟩ := id hs
  have hb : (s.addressed h == Addressed.broadcast) = false := by
    rw [State.addressed, if_neg h0, if_pos hmine]
    rfl
  rw [exec_requestOf hk, hb, next_serve hs hp]

/-- R190: a broadcast request of the table acts by its kind's meaning, unless it only reports. -/
theorem exec_broadcast (hs : HearsBroadcast s h) (hk : k.toNat ∈ requestKinds) (hp : p.length ≤ 240) :
    exec (requestOf h k p) s =
      .next (if k.toNat ∈ reportKinds then atHunt s else (requestAct k.toNat true p (atHunt s)).state) := by
  obtain ⟨-, -, h0⟩ := id hs
  have hb : (s.addressed h == Addressed.broadcast) = true := by
    rw [State.addressed, if_pos h0]
    rfl
  rw [exec_requestOf hk, hb, serve_broadcast hs hp]
  simp only [decide_eq_true_eq]

/-- The meanings of all kinds but RESTART and SET_DEVICE are the same for a broadcast. -/
theorem requestAct_broadcast {kind : Nat} (hk : kind ∉ [3, 4]) (p : List Byte) :
    requestAct kind true p = requestAct kind false p := by
  unfold requestAct
  split
  case h_3 => exact absurd (by decide) hk
  case h_4 => exact absurd (by decide) hk
  all_goals rfl

/-- Every well-formed request is served by the meaning of its kind. -/
theorem exec_request_serve {i : Instr} (hw : wellFormed i = true) (hi : requestParts i = some (h, k, p)) (s : State) :
    ∃ ro act, exec i s = .next (serve k.toNat ro h p act s) := by
  rcases requestParts_cases hi with rfl | ⟨hk, rfl⟩
  · rw [wellFormed, Bool.and_eq_true] at hw
    exact ⟨_, _, exec_unknownKindRequest hw.1 h p s⟩
  · exact ⟨_, _, exec_requestOf hk h p s⟩

end

/-- Settles O1: the queue's front is what `step` matches on. -/
theorem stepTakesFront : Obligations.StepTakesFront := by
  intro c rest s h
  rw [step, h]

/-- Settles O6: every request passes `serve`, which asks first whether the part hears it, and then whom it names. -/
theorem unheardRequestsHaveNoEffect : Obligations.UnheardRequestsHaveNoEffect := by
  intro i h k p s hw hi
  obtain ⟨ro, act, e⟩ := exec_request_serve hw hi s
  refine ⟨fun hs => ?_, fun h1 h2 h3 h4 => ?_⟩
  · rw [e, serve_unheard]
    rintro ⟨h1, h2⟩
    rcases hs with hs | hs
    · simp [hs] at h1
    · exact hs h2
  · rw [e, serve_foreign h1 h2 h3 h4]

/-- Settles O8: an unknown kind has the refusal as its meaning, and every other meaning refuses a wrong size. -/
theorem unknownKindsAndSizesAreRefused : Obligations.UnknownKindsAndSizesAreRefused := by
  intro s h kind p hp
  refine ⟨fun hlt hk => ⟨fun hs => ?_, fun hs => ?_⟩, fun hk hsize hs => ?_⟩
  · rw [exec_unknownKindRequest (unknownKind_iff.mpr ⟨hlt, hk⟩)]
    exact serve_refused hs hp rfl
  · rw [exec_unknownKindRequest (unknownKind_iff.mpr ⟨hlt, hk⟩), serve_broadcast hs hp]
    rfl
  · rw [exec_heard hs hk hp, requestAct_badLength hk hsize, reply_refuse]
    rfl

/-- Settles O9: a marked request asks for the save first, and the others never answer BUSY but for want of a slot. -/
theorem savingRefusesStoredSettings : Obligations.SavingRefusesStoredSettings := by
  intro s h kind p hs hsave
  refine ⟨fun hk hsize => ?_, fun hk hfree h32 h33 hp => ?_⟩
  · have htable : kind.toNat ∈ requestKinds := (by decide : busyKinds ⊆ requestKinds) hk
    have hbusy := (answers_requestAct htable false p (atHunt s)).marked hk hsize hsave
    rw [exec_heard hs htable (le_of_mem_payloadSizes htable hsize), hbusy, reply_refuse]
    rfl
  · refine ⟨_, exec_heard hs hk hp, fun hbusy => ?_⟩
    have hstatus := (answers_requestAct hk false p (atHunt s)).free hfree (by simp [h32, h33])
    exact hstatus (Option.some.inj hbusy)

/-! ### Broadcasts (R190) -/

/-- RESTART is accepted, at once or after its reply, or it is refused (R196, R198). -/
theorem restartRequest_cases (p : List Byte) (s : State) :
    (restartRequest true p s = s.restart.accept [] ∧
      restartRequest false p s = State.accept { s with link := { s.link with restartPending := true } } []) ∨
    ∃ st, st ≠ .ok ∧ ∀ b, restartRequest b p s = s.refuse st := by
  unfold restartRequest
  split
  · unfold unlessSaving
    split
    · exact .inr ⟨.busy, by decide, fun _ => rfl⟩
    · exact .inl ⟨rfl, rfl⟩
  · exact .inr ⟨.badLength, by decide, fun _ => rfl⟩

/-- SET_DEVICE takes settings, or it is refused (R193, R196). -/
theorem setDevice_cases (p : List Byte) (s : State) :
    (∃ d, ∀ b, setDevice b p s = (s.takeDevice b d).accept (deviceBytes d)) ∨
    ∃ st, st ≠ .ok ∧ ∀ b, setDevice b p s = s.refuse st := by
  unfold setDevice
  split
  · unfold unlessSaving
    split
    · exact .inr ⟨.busy, by decide, fun _ => rfl⟩
    · split
      · next d _ => exact .inl ⟨d, fun _ => rfl⟩
      · exact .inr ⟨.badValue, by decide, fun _ => rfl⟩
  · exact .inr ⟨.badLength, by decide, fun _ => rfl⟩

theorem State.accept_status (s : State) (body : List Byte) : (s.accept body).status = .ok := rfl

theorem reply_status (r : Served) (h : Header) (kind : Nat) : (r.reply h kind).link.reply.map Reply.status = some r.status := rfl

/-- A reply taken back from the link leaves what the request made of the rest. -/
theorem reply_withLink (r : Served) (h : Header) (kind : Nat) (l : Link) :
    { r.reply h kind with link := l } = { r.state with link := l } := rfl

/-- A restart looks at no part of the link. -/
theorem comesOutOfRestart_of_atHunt {s t : State} (h : ComesOutOfRestart (atHunt s) t) : ComesOutOfRestart s t := h

/-- Settles O7: the meaning is the same for a broadcast but for RESTART and SET_DEVICE, and only the reply writes the link. -/
theorem broadcastsActWithoutReply : Obligations.BroadcastsActWithoutReply := by
  intro s h kind p hs hunit hlt hp
  have hmine : Hears s { h with address := s.link.unitAddress } := ⟨hs.1, hs.2.1, hunit, rfl⟩
  by_cases hk : kind.toNat ∈ requestKinds
  case neg =>
    have hunknown := unknownKind_iff.mpr ⟨hlt, hk⟩
    have hrep : kind.toNat ∉ reportKinds := fun hr => hk ((by decide : reportKinds ⊆ requestKinds) hr)
    have h3 : kind.toNat ≠ 3 := fun e => hk (e ▸ by decide)
    have h4 : kind.toNat ≠ 4 := fun e => hk (e ▸ by decide)
    simp only [Laws.Framing.requestOf_unknown hunknown, exec_unknownKindRequest hunknown, serve_broadcast hs hp,
      serve_mine hmine hp, if_neg hrep, if_neg h3, if_neg h4]
    exact ⟨_, _, rfl, rfl, rfl⟩
  refine ⟨_, _, exec_broadcast hs hk hp, exec_heard hmine hk hp, ?_⟩
  split
  · rfl
  · rw [reply_status]
    split
    · next h3 =>
      rw [h3]
      simp only [requestAct]
      rcases restartRequest_cases p (atHunt s) with ⟨ht, hu⟩ | ⟨st, hst, hboth⟩
      · have hout := State.comesOutOfRestart_restart (atHunt s)
        generalize (atHunt s).restart = t at ht hout
        rw [ht, hu, State.accept_status, if_pos rfl]
        exact comesOutOfRestart_of_atHunt hout
      · rw [hboth, hboth, if_neg (by simpa [State.refuse] using hst)]
        rfl
    · split
      · next h4 =>
        rw [h4]
        simp only [requestAct]
        rcases setDevice_cases p (atHunt s) with ⟨d, hboth⟩ | ⟨st, hst, hboth⟩
        · obtain ⟨v, hv, -⟩ := (atHunt s).exists_takeDevice d
          rw [hboth, hboth, State.accept_status, if_pos rfl, State.takeDevice_broadcast, hv]
          rfl
        · rw [hboth, hboth, if_neg (by simpa [State.refuse] using hst)]
          rfl
      · next h3 h4 =>
        have hother : kind.toNat ∉ [3, 4] := by simp [h3, h4]
        rw [requestAct_broadcast hother, reply_withLink, ← (show (atHunt s).link = { s.link with receiver := .hunt } from rfl),
          ← (answers_requestAct hk false p (atHunt s)).link hother]

end Sys2Proof.Machine
end

section
/-! SUPPORT. Every command answers a next state and leaves the queue alone (O2). -/

namespace Sys2Proof.Machine

/-! ### Every command answers a next state (O2) -/

/-- An outcome that is a next state with the same waiting commands. -/
def KeepsQueue (s : State) (o : Out) : Prop := ∃ t, o = .next t ∧ t.pending = s.pending

section
variable (s : State)

theorem keepsQueue_next {t : State} (h : t.pending = s.pending := by rfl) : KeepsQueue s (.next t) := ⟨t, rfl, h⟩

theorem keepsQueue_serve {act : State → Served} (h : ∀ u, (act u).state.pending = u.pending) (kind : Nat) (ro : Bool)
    (hd : Header) (p : List Byte) : KeepsQueue s (.next (serve kind ro hd p act s)) := by
  refine keepsQueue_next s ?_
  rcases serve_cases kind ro hd p act s with e | e | e | e <;> rw [e]
  · rfl
  · exact h (atHunt s)
  · exact h (atHunt s)

theorem keepsQueue_request {i : Instr} {h : Header} {k : Byte} {p : List Byte} (hi : requestParts i = some (h, k, p)) :
    KeepsQueue s (exec i s) := by
  rcases requestParts_cases hi with rfl | ⟨hk, rfl⟩
  · change KeepsQueue s (execUnknownKindRequest h k p s)
    unfold execUnknownKindRequest
    split
    · exact keepsQueue_serve s (fun _ => rfl) _ _ _ _
    · split <;> exact keepsQueue_next s
  · rw [exec_requestOf hk]
    exact keepsQueue_serve s (fun u => (answers_requestAct hk _ p u).pending) _ _ _ _

theorem pending_restart : s.restart.pending = s.pending := rfl

theorem keepsQueue_ite {c : Prop} [Decidable c] {o o' : Out} (h : KeepsQueue s o) (h' : KeepsQueue s o') :
    KeepsQueue s (if c then o else o') := by
  split
  · exact h
  · exact h'

theorem pending_ticked (t : TickInput) : (s.ticked t).pending = s.pending := by
  rw [CallsTicked.ticked s t]

theorem pending_converted (rd : Reading) : (s.converted rd).pending = s.pending := by
  unfold State.converted
  split
  · next v _ =>
    have hframe := (WorksOn.takeConversion s v.lane rd).frame
    exact (LinkStands.of_conversion hframe).pending
  · rfl

theorem keepsQueue_tickIf (due : Bool) (t : TickInput) : KeepsQueue s (.next (tickIf due t s)) := by
  refine keepsQueue_next s ?_
  unfold tickIf
  split
  · exact pending_ticked s t
  · rfl

theorem keepsQueue_convertIf (due : Bool) (rd : Reading) : KeepsQueue s (.next (convertIf due rd s)) := by
  refine keepsQueue_next s ?_
  unfold convertIf
  split
  · exact pending_converted s rd
  · rfl

/-- The events: the supply, the pins, the line, the end of a save, the ticks and the conversions. -/
theorem keepsQueue_event {i : Instr} (hi : requestParts i = none) : KeepsQueue s (exec i s) := by
  have stays : KeepsQueue s (.next s) := keepsQueue_next s
  cases i
  case powerOn straps =>
    refine keepsQueue_ite s stays (keepsQueue_next s ?_)
    split
    · rfl
    · exact pending_restart _
  case resetNLow => exact keepsQueue_ite s stays (keepsQueue_next s)
  case resetNRelease straps =>
    refine keepsQueue_ite s (keepsQueue_next s ?_) stays
    split
    · exact pending_restart _
    · rfl
  case lineIdle => exact keepsQueue_ite s (keepsQueue_next s) stays
  case frameAbandoned => exact keepsQueue_ite s (keepsQueue_next s) stays
  case frameDiscarded => exact keepsQueue_ite s (keepsQueue_next s) stays
  case replyComplete => exact keepsQueue_ite s (keepsQueue_ite s (keepsQueue_next s (pending_restart s)) (keepsQueue_next s)) stays
  case saveComplete => exact keepsQueue_ite s (keepsQueue_next s) stays
  case powerLoss => exact keepsQueue_ite s (keepsQueue_next s) stays
  case tick t => exact keepsQueue_tickIf s true t
  case captureTimeout t => exact keepsQueue_tickIf s _ t
  case renotifyExpiry t => exact keepsQueue_tickIf s _ t
  case serviceExpiry t => exact keepsQueue_tickIf s _ t
  case windowExpiry t => exact keepsQueue_tickIf s _ t
  case overrideExpiry t => exact keepsQueue_tickIf s _ t
  case keyPress t => exact keepsQueue_tickIf s _ t
  case longPress t => exact keepsQueue_tickIf s _ t
  case keyRelease t => exact keepsQueue_tickIf s _ t
  case conversion rd => exact keepsQueue_convertIf s true rd
  case faultEntry rd => exact keepsQueue_convertIf s _ rd
  case faultRecovery rd => exact keepsQueue_convertIf s _ rd
  case plateau rd => exact keepsQueue_convertIf s _ rd
  case captureComplete rd => exact keepsQueue_convertIf s _ rd
  all_goals cases hi

end

/-- Settles O2: a request is served, an event is the whole event or nothing, and neither writes the queue. -/
theorem everyCommandCompletes : Obligations.EveryCommandCompletes := by
  intro c s
  cases hc : requestParts c with
  | none => exact keepsQueue_event s hc
  | some parts => exact keepsQueue_request s hc

end Sys2Proof.Machine
end

section
/-! SUPPORT. Saves, replies and the hold in restart, and what IDENTIFY and GET_STATUS report (O10, O12, O13, O15). -/

namespace Sys2Proof.Machine

/-! ### Saves and replies (R186, R193, R196 to R198) -/

section
variable (s : State)

theorem State.currentImage_lanes (n : LaneId) : s.currentImage.lanes[n] = (s.lane n).image := by
  simp [State.currentImage, State.lane]

theorem State.currentImage_rules (w : RuleId) : s.currentImage.rules[w] = (s.rule w).config := by
  simp [State.currentImage, State.rule]

theorem State.currentImage_bays (b : BayId) : s.currentImage.bays[b] = (s.bay b).settings := by
  simp [State.currentImage, State.bay]

end

/-- Settles O12: a save copies the image of the stored values, and its end writes the store by the read-back alone. -/
theorem savesCopyAndEnd : Obligations.SavesCopyAndEnd := by
  refine ⟨fun s h hs hsave => ?_, fun s hs => ⟨fun hsave => ?_, fun hsave agrees => ?_⟩⟩
  · have hact : saveSettings [] (atHunt s) = (atHunt s).beginSave.accept [] := unlessSaving_idle (s := atHunt s) hsave
    refine ⟨s.currentImage, ?_, rfl, rfl, rfl, s.currentImage_rules, s.currentImage_bays, s.currentImage_lanes⟩
    exact (serve_accepted (kind := 5) (ro := false) hs (by simp) hact rfl).trans rfl
  · have hsaving : s.saving = true := by simp [State.saving, hsave]
    constructor <;> simp [exec, execSaveComplete, hs, hsaving, Store.saved, State.notify]
  · have hidle : s.saving = false := by simp [State.saving, hsave]
    simp [exec, execSaveComplete, hidle]

/-- Settles O13: an addressed RESTART is marked as pending, and the end of the reply finds the mark. -/
theorem restartFollowsItsReply : Obligations.RestartFollowsItsReply := by
  refine ⟨fun s h hs hsave => ?_, fun s hs => ⟨fun hr hp => ?_, fun hr hp => ?_, fun hr => ?_⟩⟩
  · have hact : restartRequest false [] (atHunt s) =
        State.accept { atHunt s with link := { (atHunt s).link with restartPending := true } } [] :=
      unlessSaving_idle (s := atHunt s) hsave
    refine (exec_heard (k := 3) hs (by decide) (by simp)).trans ?_
    exact (congrArg (fun r => (.next (r.reply h 3) : Out)) hact).trans rfl
  · refine ⟨s.restart, ?_, s.comesOutOfRestart_restart⟩
    simp [exec, execReplyComplete, hs, hr, hp]
  · simp [exec, execReplyComplete, hs, hr, hp]
  · simp [exec, execReplyComplete, hr]

/-! ### The part held in restart (R197, R198) -/

section
variable (s : State)

/-- R197, R198: the hold drives no output and cuts a running save off; the rest stands. -/
theorem heldInRestart_holdInRestart {pw : Power} (hpw : (pw.supplyUp && !pw.resetLow) = false) :
    HeldInRestart s { s.holdInRestart with power := pw } := by
  have hoperating : State.operating { s.holdInRestart with power := pw } = false := hpw
  refine ⟨hoperating, ?_, ?_, rfl, fun b => ?_, fun hs => ?_, fun hs => ?_, rfl, fun b => ?_, rfl⟩
  · rw [State.attnLow, hoperating]
    rfl
  · rw [State.driverEnabled, hoperating]
    rfl
  · rw [State.lampLit, hoperating]
    rfl
  · exact if_pos hs
  · exact if_neg hs
  · simp [State.holdInRestart, State.bay]

end

/-- A part held in restart takes no event but the supply's and the pin's. -/
theorem exec_held_event {s : State} {c : Instr} (hs : s.operating = false) (hc : requestParts c = none) (hl : c ≠ .resetNLow)
    (hp : c ≠ .powerLoss) (hr : ∀ straps, c ≠ .powerOn straps ∧ c ≠ .resetNRelease straps) : exec c s = .next s := by
  have tick : ∀ due t, (.next (tickIf due t s) : Out) = .next s := fun due t => by simp [tickIf, hs]
  have convert : ∀ due rd, (.next (convertIf due rd s) : Out) = .next s := fun due rd => by simp [convertIf, hs]
  cases c
  case powerOn straps => exact absurd rfl (hr straps).1
  case resetNRelease straps => exact absurd rfl (hr straps).2
  case resetNLow => exact absurd rfl hl
  case powerLoss => exact absurd rfl hp
  case lineIdle => simp [exec, execLineIdle, hs]
  case frameAbandoned => simp [exec, execFrameAbandoned, hs]
  case frameDiscarded => simp [exec, execFrameDiscarded, hs]
  case replyComplete => simp [exec, execReplyComplete, hs]
  case saveComplete => simp [exec, execSaveComplete, hs]
  case tick => exact tick _ _
  case captureTimeout => exact tick _ _
  case renotifyExpiry => exact tick _ _
  case serviceExpiry => exact tick _ _
  case windowExpiry => exact tick _ _
  case overrideExpiry => exact tick _ _
  case keyPress => exact tick _ _
  case longPress => exact tick _ _
  case keyRelease => exact tick _ _
  case conversion => exact convert _ _
  case faultEntry => exact convert _ _
  case faultRecovery => exact convert _ _
  case plateau => exact convert _ _
  case captureComplete => exact convert _ _
  all_goals cases hc

/-- Settles O15: the falls of the pin and of the supply are the hold, and a held part hears no request and takes no event. -/
theorem heldPartDrivesAndTakesNothing : Obligations.HeldPartDrivesAndTakesNothing := by
  refine ⟨fun s => ⟨fun h => ?_, fun h => ?_, fun h => ?_, fun h => ?_⟩, fun s c hs hw hl hp hr => ?_⟩
  · exact ⟨_, by simp [exec, execResetNLow, h], heldInRestart_holdInRestart s (by simp), rfl⟩
  · simp [exec, execResetNLow, h]
  · exact ⟨_, by simp [exec, execPowerLoss, h], heldInRestart_holdInRestart s (by simp), rfl⟩
  · simp [exec, execPowerLoss, h]
  · cases hc : requestParts c with
    | none => exact exec_held_event hs hc hl hp hr
    | some parts =>
      obtain ⟨h, k, p⟩ := parts
      exact (unheardRequestsHaveNoEffect c h k p s hw hc).1 (.inl hs)

/-! ### IDENTIFY and GET_STATUS (R192, R195) -/

theorem State.runningCaptures_eq (s : State) :
    s.runningCaptures = (List.finRange 4).countP fun i => (s.capture i).isSome := by
  have h : s.captures.toList = (List.finRange 4).map s.capture := by
    apply List.ext_getElem <;> simp [State.capture]
  rw [State.runningCaptures, h, List.countP_map]
  rfl

/-- Settles O10: IDENTIFY reads the settings, GET_STATUS reads the tables and clears the reasons. -/
theorem identifyAndGetStatusReport : Obligations.IdentifyAndGetStatusReport := by
  intro s h hs
  have hstatus : exec (.getStatus h []) s =
      .next (answered s { s with attention := Attention.clear } h 2 .ok s.statusReply) :=
    (exec_heard (k := 2) hs (by decide) (by simp)).trans rfl
  refine ⟨?_, ?_, fun t ht => ?_⟩
  · exact (exec_heard (k := 1) hs (by decide) (by simp)).trans rfl
  · rw [hstatus, State.statusReply, s.countCalls_eq, s.countCalls_eq, s.countCalls_eq, s.unplaced_eq, s.heldCount_eq,
      s.runningCaptures_eq]
  · rw [hstatus, Host.Outcome.next.injEq] at ht
    rw [← ht, State.attnLow]
    exact Bool.and_false _

end Sys2Proof.Machine
end

section
/-! SUPPORT. Frames: their check sequence and their judgement (O3, O4, O5). -/

namespace Sys2Proof.Machine

/-! ### The frame check sequence (R188) -/

/-- A data bit equal to the bit shifted out shifts the register alone. -/
theorem crcBit_msb (reg : BitVec 16) : crcBit reg reg.msb = reg <<< 1 := by
  simp [crcBit]

/-- The bits of the register's high byte, most significant first, shift it out one by one. -/
theorem crcBit_shifted (reg : BitVec 16) {j : Nat} (hj : j ≤ 7) :
    crcBit (reg <<< j) (((reg >>> 8).setWidth 8 : Byte).getLsbD (7 - j)) = reg <<< (j + 1) := by
  have hbit : ((reg >>> 8).setWidth 8 : Byte).getLsbD (7 - j) = (reg <<< j).msb := by
    rw [BitVec.msb_eq_getLsbD_last, BitVec.getLsbD_setWidth, BitVec.getLsbD_ushiftRight, BitVec.getLsbD_shiftLeft,
      show 8 + (7 - j) = 16 - 1 - j by omega]
    simp [show 7 - j < 8 by omega, show ¬15 < j by omega]
  rw [hbit, crcBit_msb, BitVec.shiftLeft_add]

/-- R188: the register's own high byte shifts it one byte toward the high end. -/
theorem crcByte_high (reg : BitVec 16) : crcByte reg ((reg >>> 8).setWidth 8) = reg <<< 8 := by
  have step := @crcBit_shifted reg
  have h0 := step (j := 0) (by decide)
  rw [BitVec.shiftLeft_zero] at h0
  simp only [crcByte, List.foldl_cons, List.foldl_nil]
  rw [h0, step (j := 1) (by decide), step (j := 2) (by decide), step (j := 3) (by decide), step (j := 4) (by decide),
    step (j := 5) (by decide), step (j := 6) (by decide), step (j := 7) (by decide)]

/-- R188: the check sequence behind its bytes brings the register to 0. -/
theorem crc_append_crcBytes (bytes : List Byte) :
    crc (bytes ++ [(crc bytes >>> 8).setWidth 8, (crc bytes).setWidth 8]) = 0 := by
  have hfold : ∀ r : BitVec 16, [(r >>> 8).setWidth 8, r.setWidth 8].foldl crcByte r = 0 := fun r => by
    have hlow : (r.setWidth 8 : Byte) = ((r <<< 8) >>> 8).setWidth 8 := by
      apply BitVec.eq_of_toNat_eq
      simp
      omega
    rw [List.foldl_cons, List.foldl_cons, List.foldl_nil, crcByte_high, hlow, crcByte_high, ← BitVec.shiftLeft_add]
    exact BitVec.shiftLeft_eq_zero (by decide)
  rw [crc, List.foldl_append]
  exact hfold (crc bytes)

/-- R188: the check value of the nine digits, byte by byte. -/
theorem crc_digits : crc [0x31, 0x32, 0x33, 0x34, 0x35, 0x36, 0x37, 0x38, 0x39] = 0x29B1#16 := by
  have h1 : crcByte 0xFFFF#16 0x31 = 0xC782#16 := by decide
  have h2 : crcByte 0xC782#16 0x32 = 0x3DBA#16 := by decide
  have h3 : crcByte 0x3DBA#16 0x33 = 0x5BCE#16 := by decide
  have h4 : crcByte 0x5BCE#16 0x34 = 0x5349#16 := by decide
  have h5 : crcByte 0x5349#16 0x35 = 0x4560#16 := by decide
  have h6 : crcByte 0x4560#16 0x36 = 0x2EF4#16 := by decide
  have h7 : crcByte 0x2EF4#16 0x37 = 0x7718#16 := by decide
  have h8 : crcByte 0x7718#16 0x38 = 0xA12B#16 := by decide
  have h9 : crcByte 0xA12B#16 0x39 = 0x29B1#16 := by decide
  simp only [crc, List.foldl_cons, List.foldl_nil, h1, h2, h3, h4, h5, h6, h7, h8, h9]

/-- Settles O4: the register's steps are the model's, and a check sequence shifts its own register out. -/
theorem frameCheckSequence : Obligations.FrameCheckSequence := by
  refine ⟨rfl, fun reg bit => ?_, fun bytes b => ?_, crc_append_crcBytes, crc_digits, fun i h k p hi => ?_,
    fun r => ?_⟩
  · simp [crcBit, BitVec.msb_eq_getLsbD_last]
  · rw [crc, List.foldl_append]
    rfl
  · rw [frameOf, hi]
    rfl
  · simp [replyFrame]

/-! ### The judgement of a frame (R186, R187, R199) -/

/-- A frame with a payload that fits: the byte of its length states it. -/
theorem toNat_length {p : List Byte} (hp : p.length ≤ 240) : (BitVec.ofNat 8 p.length).toNat = p.length := by
  rw [BitVec.toNat_ofNat]
  omega

/-- R187: a complete frame is judged by its check sequence and its address. -/
theorem judgeFrame_complete (unit : Byte) {k : Byte} (c d : Byte) (h : Header) {p : List Byte} (hk : k.toNat < 128)
    (hp : p.length ≤ 240) :
    judgeFrame unit (frameBody h k p ++ [c, d]) = judgeComplete unit h k p [c, d] := by
  have hlen := toNat_length hp
  have hmax : Config.payloadMax = 240 := rfl
  simp only [frameBody, List.cons_append, judgeFrame, hlen]
  rw [if_neg (by omega), if_neg (by simp), List.take_left, List.drop_left]
  rfl

theorem judgeComplete_eq (unit : Byte) (h : Header) (k : Byte) (p check : List Byte) :
    judgeComplete unit h k p check =
      if check = crcBytes (crc (frameBody h k p)) ∧ (h.address = 0 ∨ h.address = unit) then .request (requestOf h k p)
      else .discarded := by
  unfold judgeComplete
  split_ifs <;> simp_all

/-- Settles O5: a frame is judged from its head on, and a line event moves the receiver unless it is REPLYING. -/
theorem lineEventsMoveTheReceiver : Obligations.LineEventsMoveTheReceiver := by
  refine ⟨fun unit a t k rest hk => ?_, fun unit a t k len rest hlen => ?_, fun unit k c d h p hk hp => ?_,
    fun s chars hs => ⟨fun hr hj => ?_, fun hr => ?_, fun hr hu => ?_, fun hr => ?_, fun hr => ?_, fun hr => ?_⟩⟩
  · cases rest with
    | nil => exact if_pos hk
    | cons len rest => exact if_pos (.inl hk)
  · exact if_pos (.inr hlen)
  · rw [judgeFrame_complete unit c d h hk hp, judgeComplete_eq]
  · simp [exec, execFrameDiscarded, hs, hr, hj, State.setReceiver]
  · rcases hr with hr | hr <;> simp [exec, execFrameDiscarded, hr]
  · rcases hr with hr | hr <;> simp [exec, execFrameAbandoned, hs, hr, hu, State.setReceiver]
  · simp [exec, execFrameAbandoned, hr]
  · rcases hr with hr | hr <;> simp [exec, execLineIdle, hs, hr, State.setReceiver]
  · simp [exec, execLineIdle, hr]

/-- Settles O3: the receiver finds again the parts of which the frame is made. -/
theorem frameRoundTrip : Obligations.FrameRoundTrip := by
  intro i h k p unit hw hi
  obtain ⟨hof, hk, hp⟩ := framing i h k p hw hi
  have hframe : frameOf i = some (frameBody h k p ++ crcBytes (crc (frameBody h k p))) := by
    rw [frameOf, hi]
    rfl
  have hjudge : judgeFrame unit (frameBody h k p ++ crcBytes (crc (frameBody h k p))) = _ :=
    (judgeFrame_complete unit _ _ h hk hp).trans (judgeComplete_eq unit h k p _)
  refine ⟨_, hframe, ?_, fun hmine => ?_, fun h0 hu => ?_⟩
  · simp only [frameBody, crcBytes, List.length_append, List.length_cons, List.length_nil]
    omega
  · rw [hjudge, if_pos ⟨rfl, hmine⟩, hof]
  · rw [hjudge, if_neg fun hpass => hpass.2.elim h0 hu]

end Sys2Proof.Machine
end

section
/-! SUPPORT. The codes and the byte layouts of records on the link (O27). -/

namespace Sys2Proof.Machine

/-! ### A byte of flags (R199) -/

/-- The number that a list of flags stands for, bit 0 first. -/
def flagNumber (bits : List Bool) : Nat :=
  bits.foldr (fun b n => (if b then 1 else 0) + 2 * n) 0

theorem flagByte_eq (bits : List Bool) : flagByte bits = w8 (flagNumber bits) := rfl

theorem testBit_flagNumber (bits : List Bool) (i : Nat) : (flagNumber bits).testBit i = bits.getD i false := by
  induction bits generalizing i with
  | nil => simp [flagNumber]
  | cons b bits ih =>
    have hcons : flagNumber (b :: bits) = (if b then 1 else 0) + 2 * flagNumber bits := rfl
    rw [hcons]
    cases i with
    | zero => cases b <;> simp [Nat.testBit_zero]
    | succ i =>
      rw [Nat.testBit_succ, show ((if b then 1 else 0) + 2 * flagNumber bits) / 2 = flagNumber bits by split <;> omega, ih]
      rfl

theorem flagNumber_lt (bits : List Bool) : flagNumber bits < 2 ^ bits.length := by
  induction bits with
  | nil => decide
  | cons b bits ih =>
    have hcons : flagNumber (b :: bits) = (if b then 1 else 0) + 2 * flagNumber bits := rfl
    rw [hcons, List.length_cons, Nat.pow_succ]
    split <;> omega

/-- Bit `i` of a byte of flags is the `i`-th flag, and 0 where there is none. -/
theorem getLsbD_flagByte (bits : List Bool) {i : Nat} (hi : i < 8) : (flagByte bits).getLsbD i = bits.getD i false := by
  rw [flagByte_eq, w8, BitVec.getLsbD_ofNat, testBit_flagNumber, decide_eq_true hi, Bool.true_and]

theorem toNat_flagByte_lt (bits : List Bool) : (flagByte bits).toNat < 2 ^ bits.length := by
  rw [flagByte_eq, w8, BitVec.toNat_ofNat]
  exact (Nat.mod_le _ _).trans_lt (flagNumber_lt bits)

/-! ### Numbers, most significant byte first (R191, R199) -/

theorem w16_layout {n : Nat} (h : n < 65536) : ∃ a b : Byte, w16 n = [a, b] ∧ n = a.toNat * 256 + b.toNat :=
  ⟨_, _, rfl, (u16_w8 h).symm⟩

theorem w32_layout (v : BitVec 32) : ∃ a b c d : Byte, w32 v = [a, b, c, d] ∧
    v.toNat = a.toNat * 16777216 + b.toNat * 65536 + c.toNat * 256 + d.toNat := by
  have h := v.isLt
  refine ⟨_, _, _, _, rfl, ?_⟩
  simp only [w8, BitVec.toNat_ofNat]
  omega

theorem w32s_layout {x : Int} (hlo : -2147483648 ≤ x) (hhi : x ≤ 2147483647) :
    ∃ v : BitVec 32, w32s x = w32 v ∧ v.toInt = x := by
  refine ⟨BitVec.ofInt 32 x, rfl, ?_⟩
  rw [BitVec.toInt_ofInt]
  exact Int.bmod_eq_of_le (by simpa using hlo) (by simp; omega)

/-! ### The records (R199) -/

theorem LaneState.code_lt (x : LaneState) : x.code < 8 := by cases x <;> decide

theorem Level.code_lt (x : Level) : x.code < 4 := by cases x <;> decide

theorem FaultReason.code_lt (x : FaultReason) : x.code < 4 := by cases x <;> decide

/-- The first byte of the lane status record: the state in its upper three bits, then the level, then the fault reason. -/
theorem laneCodes_layout {x y z : Nat} (hx : x < 8) (hy : y < 4) (hz : z < 4) :
    (w8 (x * 32 + y * 8 + z * 2)).toNat / 32 = x ∧ (w8 (x * 32 + y * 8 + z * 2)).toNat / 8 % 4 = y ∧
      (w8 (x * 32 + y * 8 + z * 2)).toNat / 2 % 4 = z ∧ (w8 (x * 32 + y * 8 + z * 2)).toNat % 2 = 0 := by
  rw [w8, BitVec.toNat_ofNat]
  omega

theorem timerReport_raised {c : Call} (h : c.state = .raised) :
    w8 (timerReport c).1 = (if c.aging.isSome then 0 else 3) ∧ (timerReport c).2 = c.aging.getD 0 := by
  simp only [timerReport, h]
  cases c.aging <;> exact ⟨rfl, rfl⟩

theorem timerReport_taken {c : Call} (h : c.state = .taken) :
    w8 (timerReport c).1 = (if c.service.isSome then 1 else 3) ∧ (timerReport c).2 = c.service.getD 0 := by
  simp only [timerReport, h]
  cases c.service <;> exact ⟨rfl, rfl⟩

theorem timerReport_satisfied {c : Call} (h : c.state = .satisfied) :
    w8 (timerReport c).1 = (if c.service.isSome then 2 else 3) ∧ (timerReport c).2 = c.service.getD 0 := by
  simp only [timerReport, h]
  cases c.service <;> exact ⟨rfl, rfl⟩

/-- Settles O27: the codes by enumeration, the fields by their bytes, the flags by the bits of their byte. -/
theorem recordsHaveTheirLayouts : Obligations.RecordsHaveTheirLayouts := by
  have bit : ∀ (bits : List Bool) (i : Nat), i < 8 → (flagByte bits).getLsbD i = bits.getD i false :=
    fun bits _ => getLsbD_flagByte bits
  refine ⟨rfl, rfl, rfl, rfl, rfl, rfl, fun n => w16_layout, w32_layout, fun x => w32s_layout, fun l => ?lane, fun m => ?move,
    fun i g item c => ?call, fun a => ?attention⟩
  case lane =>
    obtain ⟨hstate, hlevel, hreason, hlow⟩ :=
      laneCodes_layout l.state.code_lt l.committed.level.code_lt l.work.faultReason.code_lt
    exact ⟨_, _, rfl, hstate, hlevel, hreason, hlow, bit _ 0 (by decide), bit _ 1 (by decide), bit _ 2 (by decide),
      bit _ 3 (by decide), bit _ 4 (by decide), bit _ 5 (by decide), bit _ 6 (by decide), bit _ 7 (by decide)⟩
  case move => exact ⟨_, rfl, bit _ 0 (by decide), bit _ 1 (by decide), toNat_flagByte_lt _⟩
  case call =>
    exact ⟨_, _, _, rfl, bit _ 0 (by decide), bit _ 1 (by decide), bit _ 2 (by decide), toNat_flagByte_lt _,
      timerReport_raised, timerReport_taken, timerReport_satisfied⟩
  case attention =>
    exact ⟨bit _ 0 (by decide), bit _ 1 (by decide), bit _ 2 (by decide), bit _ 3 (by decide), bit _ 4 (by decide),
      bit _ 5 (by decide), bit _ 6 (by decide), bit _ 7 (by decide)⟩

end Sys2Proof.Machine
end

section
/-! SUPPORT. The part right after reset (O54). -/

namespace Sys2Proof.Machine

/-! ### Reset (R198) -/

theorem lane_reset (n : LaneId) : State.reset.lane n = Lane.off n := by simp [State.reset, State.lane]

theorem callAt_reset (i : SlotId) : State.reset.callAt i = none := by
  simp [State.reset, State.callAt, State.entry, CallEntry.fresh]

theorem marker_reset (n : LaneId) : State.reset.marker n = Markers.clear := by simp [State.reset, State.marker]

theorem held_reset (n : LaneId) : State.reset.held n = none := by simp [State.reset, State.held]

theorem capture_reset (i : CaptureId) : State.reset.capture i = none := by simp [State.reset, State.capture]

/-- Settles O54: at reset every table is empty and every lane is OFF. -/
theorem resetMeetsTheLaws : Obligations.ResetMeetsTheLaws := by
  obtain ⟨hjournal, hrecords⟩ : RecordsSound State.reset := recordsSound_empty rfl held_reset
  refine ⟨callTableLaw_empty callAt_reset marker_reset, hjournal, hrecords, ?reply, ?save, ?quiet, ?off, ?capture, ?zero,
    ?level, ?image, ?sources, ?markers⟩
  case reply => simp [ReplyLaw, State.reset]
  case save => simp [SaveLaw, State.reset]
  case quiet => simp [QuietLanes, callAt_reset, marker_reset]
  case off => exact fun n _ => ⟨lane_reset n, held_reset n⟩
  case capture => simp [CaptureLaw, lane_reset, capture_reset, Lane.off]
  case zero => simp [ZeroLaw, lane_reset, Lane.off, Calibration.factory]
  case level => simp [LevelLaw, LevelAgrees, lane_reset, Lane.off, Binding.factory, Committed.reset]
  case image => simp [ImageLaw, State.reset]
  case sources => simp [CallSourceLaw, callAt_reset]
  case markers => simp [MarkerSourceLaw, marker_reset, Markers.clear]

end Sys2Proof.Machine
end
